-- ==== Sys2Proof/Word.lean ====
section
/-! DEFINITION. The word types of the machine: bytes and 16-bit words. -/

namespace Sys2Proof

/-- A register or memory byte (00_scope.md R10: data width 8). -/
abbrev Byte := BitVec 8

/-- A logical address, the program counter or a VDC register (00_scope.md R10). -/
abbrev Word := BitVec 16

end Sys2Proof
end

