-- ==== Sys2Proof/Machine/Bits.lean ====
section
/-! DEFINITION. Bit-field, byte-order and sign-extension helpers (00_scope.md R11, 20_memory.md R70). -/

namespace Sys2Proof.Machine

/-- `v[7:0]` of a word. -/
def loByte (w : Word) : Byte := w.extractLsb' 0 8

/-- `v[15:8]` of a word. -/
def hiByte (w : Word) : Byte := w.extractLsb' 8 8

/-- `hi : lo`, the word whose low byte lies at the lower address (20_memory.md R70). -/
def joinBytes (lo hi : Byte) : Word := hi ++ lo

/-- `sext_8` to 16 bits (00_scope.md R11). -/
def sext8 (b : Byte) : Word := b.signExtend 16

/-- Logical address of zero-page offset z: `$2000 | z` (20_memory.md R75). -/
def zpAddr (z : Byte) : Word := 0x2000#16 ||| z.zeroExtend 16

/-- Logical address of the stack byte for S: `$2100 | S` (10_state.md R34). -/
def stackAddr (sp : Byte) : Word := 0x2100#16 ||| sp.zeroExtend 16

/-- Bit i of a byte cleared (41_alu.md R228). -/
def clearBit (b : Byte) (i : Nat) : Byte := b &&& ~~~(1#8 <<< i)

/-- Bit i of a byte set (41_alu.md R229). -/
def setBit (b : Byte) (i : Nat) : Byte := b ||| (1#8 <<< i)

/-- The index of the lowest 1 bit of a byte, if it has one (43_system.md R320). -/
def lowestSetBit (b : Byte) : Option (Fin 8) :=
  if b.getLsbD 0 then some 0 else if b.getLsbD 1 then some 1
  else if b.getLsbD 2 then some 2 else if b.getLsbD 3 then some 3
  else if b.getLsbD 4 then some 4 else if b.getLsbD 5 then some 5
  else if b.getLsbD 6 then some 6 else if b.getLsbD 7 then some 7 else none

end Sys2Proof.Machine
end

