-- ==== Sys2Proof/Config.lean ====
section
/-! DEFINITION. What an implementation fixes (the parameters of 00_scope.md R10, as plain data that
State carries, log 1) and the values nothing fixes (opaque constants, logs 2 and 22). -/

namespace Sys2Proof

/-- The operand modes of the arithmetic and load instructions (30_encoding.md R142-R151). -/
inductive AddrMode where
  | imm | zp | zpX | zpY | ind | indX | indY | abs | absX | absY
deriving DecidableEq, Repr, Inhabited

/-- PARAMETER TSB_TRB_NV (41_alu.md R216): where N and V come from after TSB and TRB. -/
inductive TsbTrbNv where
  | operand | result | unchanged
deriving DecidableEq, Repr, Inhabited

/-- PARAMETER BCD_INVALID (41_alu.md R202): decimal arithmetic on a nibble above 9. -/
inductive BcdInvalid where
  | algorithm | draw
deriving DecidableEq, Repr, Inhabited

/-- PARAMETER E3_VARIANT (44_block_transfer.md R344). -/
inductive E3Variant where
  | incAlt | fixInc
deriving DecidableEq, Repr, Inhabited

/-- PARAMETER VDC_TIME_UNIT (60_exceptions.md R425). -/
inductive VdcTimeUnit where
  | master | rawCycles
deriving DecidableEq, Repr, Inhabited

/-- PARAMETER CYCLES: one field for each class of the table of 70_reset_and_hazards.md R620, with
that table's value as its default (DEDUCED: a cost per class, not per opcode; log 7). -/
structure CycleTable where
  /-- loads, stores, ALU, compares and BIT with an immediate operand -/
  imm : Nat := 2
  /-- the same with zp, zp,X or zp,Y -/
  zp : Nat := 4
  /-- the same with abs, abs,X or abs,Y -/
  abs : Nat := 5
  /-- the same with (zp), (zp,X) or (zp),Y -/
  ind : Nat := 7
  /-- accumulator forms, register increments, transfers, clears, flags, SET and NOP -/
  implied : Nat := 2
  /-- read-modify-write, TSB and TRB with zp or zp,X -/
  rmwZp : Nat := 6
  /-- read-modify-write, TSB and TRB with abs or abs,X -/
  rmwAbs : Nat := 7
  /-- RMBi and SMBi -/
  bitOp : Nat := 7
  /-- TST #,zp and #,zp,X -/
  tstZp : Nat := 7
  /-- TST #,abs and #,abs,X -/
  tstAbs : Nat := 8
  /-- PHA PHP PHX PHY -/
  push : Nat := 3
  /-- PLA PLP PLX PLY -/
  pull : Nat := 4
  /-- SAX SAY SXY, CSL and CSH -/
  swap : Nat := 3
  tam : Nat := 5
  tma : Nat := 4
  /-- ST0 ST1 ST2 -/
  vdcStore : Nat := 5
  /-- a conditional branch not taken -/
  branch : Nat := 2
  /-- a conditional branch taken -/
  branchTaken : Nat := 4
  bra : Nat := 4
  /-- BBRi and BBSi not taken -/
  bitBranch : Nat := 6
  /-- BBRi and BBSi taken, without the page penalty -/
  bitBranchTaken : Nat := 8
  bsr : Nat := 8
  jmpAbs : Nat := 4
  /-- JMP (abs) and JMP (abs,X) -/
  jmpInd : Nat := 7
  /-- JSR, RTS and RTI -/
  jsr : Nat := 7
  brk : Nat := 8
  /-- WAI and STP -/
  wait : Nat := 3
  undefined : Nat := 2
  /-- interrupt entry, 60_exceptions.md R405 -/
  entry : Nat := 8
  /-- extra for ADC and SBC with P.D = 1 -/
  decimalExtra : Nat := 1
  /-- extra for an instruction executed in T-mode -/
  tModeExtra : Nat := 3
deriving DecidableEq, Repr, Inhabited

/-- The implementation parameters of 00_scope.md R10. -/
structure Params where
  /-- ROM_BANKS (20_memory.md R81) -/
  romBanks : Nat
  /-- ROM_BANK_MAP: entry p, if listed, is the bank of page p; an unlisted page p is p mod ROM_BANKS
  (20_memory.md R81; the list form is a DESIGN CHOICE, log 16) -/
  romBankMap : List Nat
  /-- WRAM_PAGES (20_memory.md R82) -/
  wramPages : List Byte
  /-- CART_RAM_SIZE (20_memory.md R83); the spec gives no lower bound, and 0 is log 28 -/
  cartRamSize : Nat
  /-- MPR_ALIAS (20_memory.md R79): the base offset of the alias window, if there is one -/
  mprAlias : Option Nat
  /-- VDC_SPAN (20_memory.md R93) -/
  vdcSpan : Nat
  /-- BOOT_BANK (70_reset_and_hazards.md R604) -/
  bootBank : Byte
  /-- BOOT_STACK_PRIME (70_reset_and_hazards.md R607) -/
  bootStackPrime : Option (Byte × List Byte)
  /-- BOOT_MAP (70_reset_and_hazards.md R605) -/
  bootMap : Option (List Byte)
  /-- T_MODE_SET (41_alu.md R204) -/
  tModeSet : List AddrMode
  /-- TSB_TRB_NV (41_alu.md R216) -/
  tsbTrbNv : TsbTrbNv
  /-- BCD_INVALID (41_alu.md R202) -/
  bcdInvalid : BcdInvalid
  /-- E3_VARIANT (44_block_transfer.md R344) -/
  e3Variant : E3Variant
  /-- CYCLES (70_reset_and_hazards.md R620) -/
  cyc : CycleTable
  /-- BT_BASE (44_block_transfer.md R346) -/
  btBase : Nat
  /-- BT_PER_BYTE (44_block_transfer.md R346) -/
  btPerByte : Nat
  /-- BBX_PAGE_PENALTY (42_control.md R270) -/
  bbxPagePenalty : Nat
  /-- IDLE_STEP_CYCLES (60_exceptions.md R406) -/
  idleStepCycles : Nat
  /-- VDC_TIME_UNIT (60_exceptions.md R425) -/
  vdcTimeUnit : VdcTimeUnit
  /-- LINES_PER_FRAME (61_video.md R535) -/
  linesPerFrame : Nat
  /-- VRAM_WORDS (61_video.md R505) -/
  vramWords : Nat
  /-- REGION_BIT (60_exceptions.md R430) -/
  regionBit : Bool
  /-- CD_BIT (60_exceptions.md R430) -/
  cdBit : Bool
deriving DecidableEq, Repr, Inhabited

/-- What 00_scope.md R10 and the rules it cites ask of the parameters. -/
def Params.wf (p : Params) : Bool :=
  decide (1 ≤ p.romBanks) && decide (1 ≤ p.linesPerFrame)
    && decide (p.vdcSpan ∈ [4, 8, 16, 32, 64, 128, 256, 512, 1024])
    && p.mprAlias.all (fun b => decide (b + 7 < 8192))
    && decide (p.bootBank.toNat < 0x80)
    && p.bootMap.all (fun m => m.length == 7)

/-! ### Values nothing fixes

No constant below has a body: nothing can be proved of its value. -/

/-- OPEN parameter MPR_ALIAS (20_memory.md R79, decision D8; log 22). -/
opaque Config.mprAlias : Option Nat
/-- OPEN parameter TSB_TRB_NV (41_alu.md R216, decision D16; log 22). -/
opaque Config.tsbTrbNv : TsbTrbNv
/-- Host parameter REGION_BIT, no default (60_exceptions.md R430; log 22). -/
opaque Config.regionBit : Bool
/-- Host parameter CD_BIT, no default (60_exceptions.md R430; log 22). -/
opaque Config.cdBit : Bool

/-- What the n-th draw gives for a read of an unmapped page (20_memory.md R85; log 2). -/
opaque Config.unmappedByte : Nat → Byte
/-- The sound collaborator's answer to a register read (20_memory.md R95; log 13). -/
opaque Config.psgByte : Nat → Byte
/-- The sound collaborator's interrupt_raised (60_exceptions.md R415; log 13). -/
opaque Config.psgRaises : Nat → Bool
/-- The eight buttons held on pad 1 at a read (60_exceptions.md R430; log 12). -/
opaque Config.padButtons : Nat → Byte
/-- What TMA #0 loads into A (43_system.md R321; log 2). -/
opaque Config.tmaZero : Nat → Byte
/-- V after a decimal ADC or SBC (41_alu.md R203; log 2). -/
opaque Config.decimalV : Nat → Bool
/-- Result of a decimal ADC or SBC of non-BCD operands under BCD_INVALID = Draw (41_alu.md R202; log 2). -/
opaque Config.invalidBcdResult : Nat → Byte
/-- Carry of the same (41_alu.md R202; log 2). -/
opaque Config.invalidBcdCarry : Nat → Bool
/-- A stack byte left by a block transfer (44_block_transfer.md R340; log 2). -/
opaque Config.blockResidue : Nat → Byte
/-- What a later reset leaves in a register it does not specify (70_reset_and_hazards.md R603; log 14). -/
opaque Config.resetValue : Nat → Word

/-- The default parameters of 00_scope.md R10. ROM_BANKS has no default: 1 stands for no image
(DESIGN CHOICE, log 5); BOOT_STACK_PRIME and BOOT_MAP are `none` (DESIGN CHOICE, log 22). -/
def Params.default : Params where
  romBanks := 1
  romBankMap := []
  wramPages := [0xF8#8, 0xF9#8, 0xFA#8, 0xFB#8]
  cartRamSize := 2048
  mprAlias := Config.mprAlias
  vdcSpan := 1024
  bootBank := 0x00#8
  bootStackPrime := none
  bootMap := none
  tModeSet := [.zp, .zpX]
  tsbTrbNv := Config.tsbTrbNv
  bcdInvalid := .algorithm
  e3Variant := .incAlt
  cyc := {}
  btBase := 17
  btPerByte := 6
  bbxPagePenalty := 1
  idleStepCycles := 1
  vdcTimeUnit := .master
  linesPerFrame := 263
  vramWords := 32768
  regionBit := Config.regionBit
  cdBit := Config.cdBit

end Sys2Proof
end

