-- ==== Sys2Proof/Machine/State.lean ====
section
/-! DEFINITION. The whole state of the machine as plain data (10_state.md), its fault and refusal
types, and the state after reset (10_state.md R60). -/

namespace Sys2Proof.Machine

/-- Sparse storage: key and value pairs, keys strictly rising, no value equal to the one an unlisted
key reads as (log 3). -/
abbrev Store (α : Type) := List (Nat × α)

/-- A byte memory: `Store` of bytes, a list of `Host.Cell`. -/
abbrev Memory := List Host.Cell

/-- What a byte of memory that nothing has written reads as: $00, for every memory of the machine
(DESIGN CHOICE, unsafe, log 3; 10_state.md R60 leaves it unspecified). -/
def unlistedByte : Byte := 0x00#8

/-- The stored flags of P (10_state.md R35). B is not stored. -/
structure Flags where
  n : Bool
  v : Bool
  t : Bool
  d : Bool
  i : Bool
  z : Bool
  c : Bool
deriving DecidableEq, Repr, Inhabited

/-- RunState (10_state.md R40). -/
inductive RunState where
  | running | waiting | stopped
deriving DecidableEq, Repr, Inhabited

/-- Speed (10_state.md R41). -/
inductive Speed where
  | low | high
deriving DecidableEq, Repr, Inhabited

/-- The CPU's registers, run state and hidden bits (10_state.md R30-R43). -/
structure Cpu where
  a : Byte
  x : Byte
  y : Byte
  /-- the stack pointer S -/
  sp : Byte
  pc : Word
  p : Flags
  runState : RunState
  speed : Speed
  /-- AfterSet: the instruction just completed was SET (10_state.md R42) -/
  afterSet : Bool
  nmiPending : Bool
deriving DecidableEq, Repr, Inhabited

/-- The interrupt controller (10_state.md R45): bit 0 IRQ2, bit 1 IRQ1, bit 2 Timer. -/
structure Irq where
  /-- IrqMask: 1 disables vectoring -/
  mask : BitVec 3
  /-- IrqReq: 1 is pending -/
  req : BitVec 3
deriving DecidableEq, Repr, Inhabited

/-- The timer (10_state.md R46). -/
structure Timer where
  reload : BitVec 7
  counter : BitVec 7
  /-- master clocks accumulated, below 3072 between steps -/
  prescale : Nat
  enabled : Bool
deriving DecidableEq, Repr, Inhabited

/-- The joypad port's written bits (10_state.md R47). -/
structure Pad where
  sel : Bool
  clr : Bool
deriving DecidableEq, Repr, Inhabited

/-- One per-scanline record (61_video.md R540). -/
structure Snapshot where
  bxr : BitVec 10
  bgY : BitVec 9
  sb : Bool
  bb : Bool
deriving DecidableEq, Repr, Inhabited

/-- One row of 9-bit colours (61_video.md R556). -/
abbrev Row := List (BitVec 9)

/-- The video display controller (61_video.md R501-R507). -/
structure Vdc where
  /-- VdcAR -/
  ar : BitVec 5
  mawr : Word
  marr : Word
  cr : Word
  rcr : Word
  bxr : Word
  byr : Word
  mwr : Word
  hsr : Word
  hdr : Word
  vpr : Word
  vdw : Word
  vcr : Word
  dcr : Word
  sour : Word
  desr : Word
  lenr : Word
  dvssr : Word
  /-- VdcSt -/
  st : BitVec 6
  vram : Store Word
  sat : Store Word
  wLatch : Byte
  rLatch : Word
  satPending : Bool
  vramDmaCount : Nat
  satDmaCount : Nat
  lastDmaSrc : Word
  lastDmaDst : Word
  lastDmaLen : Nat
  /-- VdcClock: the master clock within the line, below 1365 -/
  clock : Nat
  /-- VdcLine: the scanline, below LINES_PER_FRAME -/
  line : Nat
  bgY : BitVec 9
  snap : Store Snapshot
  frame : Store Row
  lastFrame : Store Row
deriving DecidableEq, Repr, Inhabited

/-- The colour encoder (10_state.md R50). -/
structure Vce where
  cr : Byte
  cta : BitVec 9
  palette : Store (BitVec 9)
deriving DecidableEq, Repr, Inhabited

/-- The machine. The last four fields are the model's own: the parameters (log 1), the draw counter
(log 2) and the two outputs of a step (log 6). -/
structure State where
  cpu : Cpu
  /-- MPR[0] .. MPR[7] (10_state.md R39) -/
  mpr : Vector Byte 8
  irq : Irq
  timer : Timer
  pad : Pad
  /-- ROM: bank b, offset o at key b * 8192 + o (20_memory.md R81) -/
  rom : Memory
  /-- work RAM by offset (20_memory.md R82) -/
  wram : Memory
  /-- cartridge RAM by offset mod CART_RAM_SIZE (20_memory.md R83) -/
  cartRam : Memory
  /-- the hardware page's fallback store by offset (20_memory.md R99) -/
  fallback : Memory
  vdc : Vdc
  vce : Vce
  /-- implementation parameters, changed by no step -/
  params : Params
  /-- how many unconstrained values have been drawn -/
  draws : Nat
  /-- the cycle count the last step returned (60_exceptions.md R460) -/
  cycles : Nat
  /-- what the last step wrote to the sound collaborator, newest first (20_memory.md R95) -/
  psgWrites : List (BitVec 4 × Byte)
deriving DecidableEq, Repr, Inhabited

/-- Faults. The hardware has none (60_exceptions.md R400). -/
inductive Fault where
  /-- The source's one panic-class condition, a bank-slot index outside 0-7 (60_exceptions.md R400).
  Nobody raises it: the slot index is addr[15:13] (log 20). Safe. -/
  | slotIndexOutOfRange
deriving DecidableEq, Repr

/-- Refusals. -/
inductive Refusal where
  /-- Raised only by an arm of `exec` whose instruction has no meaning yet; none is left. Safe. -/
  | notModelled (mnemonic : String)
deriving DecidableEq, Repr

/-- The VDC after reset: status, SAT DMA pending, position and DMA counters 0 (61_video.md R508); the
rest is unspecified there and 0 here (DESIGN CHOICE, unsafe, logs 3 and 4). -/
def Vdc.reset : Vdc where
  ar := 0
  mawr := 0
  marr := 0
  cr := 0
  rcr := 0
  bxr := 0
  byr := 0
  mwr := 0
  hsr := 0
  hdr := 0
  vpr := 0
  vdw := 0
  vcr := 0
  dcr := 0
  sour := 0
  desr := 0
  lenr := 0
  dvssr := 0
  st := 0
  vram := []
  sat := []
  wLatch := 0
  rLatch := 0
  satPending := false
  vramDmaCount := 0
  satDmaCount := 0
  lastDmaSrc := 0
  lastDmaDst := 0
  lastDmaLen := 0
  clock := 0
  line := 0
  bgY := 0
  snap := []
  frame := []
  lastFrame := []

/-- The machine right after power-on and reset, with no cartridge image placed (10_state.md R60,
70_reset_and_hazards.md R600). What R60 calls unspecified is 0 here (DESIGN CHOICE, unsafe, logs 3
and 4); PC is the word at $FFFE of the empty image (log 5). -/
def State.reset : State where
  cpu :=
    { a := 0, x := 0, y := 0, sp := 0, pc := 0x0000
      p := { n := false, v := false, t := false, d := false, i := true, z := false, c := false }
      runState := .running, speed := .low, afterSet := false, nmiPending := false }
  mpr := #v[0, 0, 0, 0, 0, 0, 0, Params.default.bootBank]
  irq := { mask := 0, req := 0 }
  timer := { reload := 0, counter := 0, prescale := 0, enabled := false }
  pad := { sel := false, clr := false }
  rom := []
  wram := []
  cartRam := []
  fallback := []
  vdc := Vdc.reset
  vce := { cr := 0, cta := 0, palette := [] }
  params := Params.default
  draws := 0
  cycles := 0
  psgWrites := []

end Sys2Proof.Machine
end

