-- ==== Sys2Proof/Machine/Memory.lean ====
section
/-! DEFINITION. Sparse storage in its one canonical form, and byte memories over it (log 3). -/

namespace Sys2Proof.Machine

/-- The value at key k; `d` where nothing is listed. -/
def Store.get {α : Type} (d : α) : Store α → Nat → α
  | [], _ => d
  | (k', v) :: r, k => if k' = k then v else Store.get d r k

/-- Store v at key k, keeping the canonical form: writing `d` removes the entry. -/
def Store.set {α : Type} [DecidableEq α] (d : α) : Store α → Nat → α → Store α
  | [], k, v => if v = d then [] else [(k, v)]
  | (k', v') :: r, k, v =>
    if k < k' then (if v = d then (k', v') :: r else (k, v) :: (k', v') :: r)
    else if k' = k then (if v = d then r else (k, v) :: r)
    else (k', v') :: Store.set d r k v

/-- Every key is at least n, keys rise strictly, and no value is `d`. -/
def Store.wfFrom {α : Type} [DecidableEq α] (d : α) : Nat → Store α → Bool
  | _, [] => true
  | n, (k, v) :: r => decide (n ≤ k) && decide (v ≠ d) && Store.wfFrom d (k + 1) r

/-- The canonical form. -/
def Store.wf {α : Type} [DecidableEq α] (d : α) (l : Store α) : Bool := Store.wfFrom d 0 l

/-- Every key is below n. -/
def Store.below {α : Type} (n : Nat) (l : Store α) : Bool := l.all fun e => decide (e.1 < n)

/-- Read one byte of a memory. -/
def Memory.get (m : Memory) (k : Nat) : Byte := Store.get unlistedByte m k

/-- Write one byte of a memory. -/
def Memory.set (m : Memory) (k : Nat) (b : Byte) : Memory := Store.set unlistedByte m k b

/-- The canonical form of a byte memory. -/
def Memory.wf (m : Memory) : Bool := Store.wf unlistedByte m

end Sys2Proof.Machine
end

