-- ==== Sys2Proof/Machine/Devices.lean ====
section
/-! DEFINITION. The colour encoder's ports, the timer, the interrupt controller and the joypad port
(61_video.md R560-R566, 60_exceptions.md R402-R430). -/

namespace Sys2Proof.Machine

/-! ### Colour encoder -/

/-- CTA low byte write (61_video.md R562). -/
def Vce.writeAddrLow (v : Vce) (b : Byte) : Vce := { v with cta := v.cta.extractLsb' 8 1 ++ b }

/-- CTA bit 8 write (61_video.md R562). -/
def Vce.writeAddrHigh (v : Vce) (b : Byte) : Vce :=
  { v with cta := b.extractLsb' 0 1 ++ v.cta.extractLsb' 0 8 }

/-- Palette[VceCTA]. -/
def Vce.entry (v : Vce) : BitVec 9 := Store.get 0 v.palette v.cta.toNat

/-- Palette[VceCTA] <- w. -/
def Vce.setEntry (v : Vce) (w : BitVec 9) : Vce :=
  { v with palette := Store.set 0 v.palette v.cta.toNat w }

/-- Colour data low write (61_video.md R563). -/
def Vce.writeDataLow (v : Vce) (b : Byte) : Vce := v.setEntry (v.entry.extractLsb' 8 1 ++ b)

/-- Colour data high write, which advances CTA (61_video.md R563). -/
def Vce.writeDataHigh (v : Vce) (b : Byte) : Vce :=
  { v.setEntry (b.extractLsb' 0 1 ++ v.entry.extractLsb' 0 8) with cta := v.cta + 1 }

/-- `$FE | bit` (61_video.md R562, R564). -/
def feOr (b : Bool) : Byte := if b then 0xFF else 0xFE

/-- Colour data high read, which advances CTA (61_video.md R564). -/
def Vce.readDataHigh (v : Vce) : Byte × Vce :=
  (feOr (v.entry.getLsbD 8), { v with cta := v.cta + 1 })

/-! ### Interrupt controller -/

/-- What can enter a vector (00_scope.md R14, 60_exceptions.md R404). -/
inductive Source where
  | nmi | timer | irq1 | irq2 | brk
deriving DecidableEq, Repr

/-- The vector address of a source (60_exceptions.md R404). -/
def Source.vector : Source → Word
  | .nmi => 0xFFFC
  | .timer => 0xFFFA
  | .irq1 => 0xFFF8
  | .irq2 => 0xFFF6
  | .brk => 0xFFF6

/-- IrqReq[n] <- 1 where b holds (60_exceptions.md R414-R417). -/
def Irq.raise (q : Irq) (n : Nat) (b : Bool) : Irq :=
  if b then { q with req := q.req ||| (1#3 <<< n) } else q

/-- IrqReq[n] <- 0. -/
def Irq.clear (q : Irq) (n : Nat) : Irq := { q with req := q.req &&& ~~~(1#3 <<< n) }

/-- A maskable request that vectors when I = 0: pending and not disabled (60_exceptions.md R402). -/
def Irq.live (q : Irq) (n : Nat) : Bool := q.req.getLsbD n && !q.mask.getLsbD n

/-- Chosen: the first acceptable of NMI, Timer, IRQ1, IRQ2 (60_exceptions.md R402). -/
def chosen (s : State) : Option Source :=
  if s.cpu.nmiPending then some .nmi
  else if !s.cpu.p.i && s.irq.live 2 then some .timer
  else if !s.cpu.p.i && s.irq.live 1 then some .irq1
  else if !s.cpu.p.i && s.irq.live 0 then some .irq2
  else none

/-! ### Timer -/

/-- Counter/reload register write (60_exceptions.md R421). -/
def Timer.writeReload (t : Timer) (b : Byte) : Timer := { t with reload := b.extractLsb' 0 7 }

/-- Control register write, with the enable transition (60_exceptions.md R422, R423). -/
def Timer.writeControl (t : Timer) (b : Byte) : Timer :=
  if b.getLsbD 0 && !t.enabled then
    { t with enabled := true, counter := t.reload, prescale := 0 }
  else { t with enabled := b.getLsbD 0 }

/-- One tick: decrement, and at 0 reload and request (60_exceptions.md R426). -/
def Timer.tick (t : Timer) : Timer × Bool :=
  if t.counter - 1 = 0 then ({ t with counter := t.reload }, true)
  else ({ t with counter := t.counter - 1 }, false)

/-- n ticks; answers whether any requested. -/
def Timer.ticks : Nat → Timer → Timer × Bool
  | 0, t => (t, false)
  | n + 1, t =>
    let r := Timer.ticks n t.tick.1
    (r.1, t.tick.2 || r.2)

/-- TimerAdvance by mc master clocks (60_exceptions.md R426, R427); the loop's passes are counted by the
quotient (DEDUCED, log 18). -/
def Timer.advance (mc : Nat) (t : Timer) : Timer × Bool :=
  if t.enabled then
    Timer.ticks ((t.prescale + mc) / 3072) { t with prescale := (t.prescale + mc) % 3072 }
  else (t, false)

/-! ### Joypad port -/

/-- SEL and CLR write (60_exceptions.md R430). -/
def padWrite (b : Byte) : Pad := { sel := b.getLsbD 0, clr := b.getLsbD 1 }

/-- The joypad byte for the held buttons, bits 0-7 of `held` being Up, Right, Down, Left, I, II, Select,
Run (the order is a DESIGN CHOICE, log 12; 60_exceptions.md R430). -/
def padByte (p : Params) (q : Pad) (held : Byte) : Byte :=
  let nib : BitVec 4 :=
    if q.clr then 0 else if q.sel then ~~~(held.extractLsb' 0 4) else ~~~(held.extractLsb' 4 4)
  nib.zeroExtend 8 ||| 0x30#8 ||| (if p.regionBit then 0x40#8 else 0#8)
    ||| (if p.cdBit then 0x80#8 else 0#8)

end Sys2Proof.Machine
end

