-- ==== Sys2Proof/Machine/Vdc.lean ====
section
/-! DEFINITION. The video display controller: registers, status events, ports, DMA (61_video.md
R500-R533). A function that may raise IRQ1 answers the new VDC and whether it did. -/

namespace Sys2Proof.Machine

/-- The VDC registers that hold a value of their own (61_video.md R501). -/
inductive VdcReg where
  | mawr | marr | cr | rcr | bxr | byr | mwr | hsr | hdr | vpr | vdw | vcr | dcr | sour | desr | lenr
  | dvssr
deriving DecidableEq, Repr

/-- The register that VdcAR selects; none for VWR/VRR ($02) and the undefined numbers
(61_video.md R501). -/
def Vdc.selected (v : Vdc) : Option VdcReg :=
  match v.ar.toNat with
  | 0x00 => some .mawr
  | 0x01 => some .marr
  | 0x05 => some .cr
  | 0x06 => some .rcr
  | 0x07 => some .bxr
  | 0x08 => some .byr
  | 0x09 => some .mwr
  | 0x0A => some .hsr
  | 0x0B => some .hdr
  | 0x0C => some .vpr
  | 0x0D => some .vdw
  | 0x0E => some .vcr
  | 0x0F => some .dcr
  | 0x10 => some .sour
  | 0x11 => some .desr
  | 0x12 => some .lenr
  | 0x13 => some .dvssr
  | _ => none

/-- Reg[r]. -/
def Vdc.reg (v : Vdc) : VdcReg → Word
  | .mawr => v.mawr
  | .marr => v.marr
  | .cr => v.cr
  | .rcr => v.rcr
  | .bxr => v.bxr
  | .byr => v.byr
  | .mwr => v.mwr
  | .hsr => v.hsr
  | .hdr => v.hdr
  | .vpr => v.vpr
  | .vdw => v.vdw
  | .vcr => v.vcr
  | .dcr => v.dcr
  | .sour => v.sour
  | .desr => v.desr
  | .lenr => v.lenr
  | .dvssr => v.dvssr

/-- Reg[r] <- w. -/
def Vdc.setReg (v : Vdc) (r : VdcReg) (w : Word) : Vdc :=
  match r with
  | .mawr => { v with mawr := w }
  | .marr => { v with marr := w }
  | .cr => { v with cr := w }
  | .rcr => { v with rcr := w }
  | .bxr => { v with bxr := w }
  | .byr => { v with byr := w }
  | .mwr => { v with mwr := w }
  | .hsr => { v with hsr := w }
  | .hdr => { v with hdr := w }
  | .vpr => { v with vpr := w }
  | .vdw => { v with vdw := w }
  | .vcr => { v with vcr := w }
  | .dcr => { v with dcr := w }
  | .sour => { v with sour := w }
  | .desr => { v with desr := w }
  | .lenr => { v with lenr := w }
  | .dvssr => { v with dvssr := w }

/-! ### VRAM and the SAT (61_video.md R505) -/

/-- A VRAM word; an address at or above VRAM_WORDS reads 0. -/
def Vdc.vramAt (p : Params) (v : Vdc) (n : Nat) : Word :=
  if n < p.vramWords then Store.get 0 v.vram n else 0

/-- VramRead. -/
def Vdc.vramRead (p : Params) (v : Vdc) (a : Word) : Word := v.vramAt p a.toNat

/-- VramWrite; ignored at or above VRAM_WORDS. -/
def Vdc.vramWrite (p : Params) (v : Vdc) (a : Word) (w : Word) : Vdc :=
  if a.toNat < p.vramWords then { v with vram := Store.set 0 v.vram a.toNat w } else v

/-- `Inc` by CR bits 12-11 (61_video.md R502, R515). -/
def Vdc.inc (v : Vdc) : Word :=
  match (v.cr.extractLsb' 11 2).toNat with
  | 0 => 1
  | 1 => 32
  | 2 => 64
  | _ => 128

/-! ### Status events (61_video.md R504, R521) -/

/-- The status events of 61_video.md R521. -/
inductive VdcEvent where
  | collision | overflow | raster | satDma | vramDma | vblank
deriving DecidableEq, Repr

/-- The VdcSt bit of an event. -/
def VdcEvent.bit : VdcEvent → Nat
  | .collision => 0
  | .overflow => 1
  | .raster => 2
  | .satDma => 3
  | .vramDma => 4
  | .vblank => 5

/-- The enable bit of an event. -/
def Vdc.enabled (v : Vdc) : VdcEvent → Bool
  | .collision => v.cr.getLsbD 0
  | .overflow => v.cr.getLsbD 1
  | .raster => v.cr.getLsbD 2
  | .satDma => v.dcr.getLsbD 0
  | .vramDma => v.dcr.getLsbD 1
  | .vblank => v.cr.getLsbD 3

/-- Raise an event: with its enable set, the status bit and IRQ1; else nothing (61_video.md R521). -/
def Vdc.raise (v : Vdc) (e : VdcEvent) : Vdc × Bool :=
  if v.enabled e then ({ v with st := v.st ||| (1#6 <<< e.bit) }, true) else (v, false)

/-- One VDC action after another; IRQ1 is raised if either raised it. -/
def vdcThen (r : Vdc × Bool) (f : Vdc → Vdc × Bool) : Vdc × Bool :=
  ((f r.1).1, r.2 || (f r.1).2)

/-- Raise an event where a condition holds. -/
def Vdc.raiseIf (v : Vdc) (b : Bool) (e : VdcEvent) : Vdc × Bool :=
  if b then v.raise e else (v, false)

/-! ### DMA (61_video.md R530-R533) -/

/-- A DMA address stepped by 1, down if `dec`. -/
def dmaStep (dec : Bool) (a : Word) : Word := if dec then a - 1 else a + 1

/-- Copy n words one at a time in order; answers the VDC and the two final addresses
(61_video.md R531). -/
def Vdc.dmaCopy (p : Params) (sdec ddec : Bool) : Nat → Word → Word → Vdc → Vdc × Word × Word
  | 0, s, d, v => (v, s, d)
  | n + 1, s, d, v =>
    Vdc.dmaCopy p sdec ddec n (dmaStep sdec s) (dmaStep ddec d) (v.vramWrite p d (v.vramRead p s))

/-- The VRAM DMA, run to completion (61_video.md R531). -/
def Vdc.vramDma (p : Params) (v : Vdc) : Vdc × Bool :=
  let n := v.lenr.toNat + 1
  let r := Vdc.dmaCopy p (v.dcr.getLsbD 2) (v.dcr.getLsbD 3) n v.sour v.desr v
  Vdc.raise
    { r.1 with
      lastDmaSrc := v.sour, lastDmaDst := v.desr, lastDmaLen := n
      vramDmaCount := v.vramDmaCount + 1
      sour := r.2.1, desr := r.2.2, lenr := 0xFFFF }
    .vramDma

/-- The 256 words of the SAT DMA (61_video.md R533). -/
def Vdc.satCopy (p : Params) (v : Vdc) : Store Word :=
  (List.range 256).foldl
    (fun sat i => Store.set 0 sat i (v.vramRead p (v.dvssr + BitVec.ofNat 16 i))) v.sat

/-- The SAT DMA at the start of vertical blank, if armed or repeating (61_video.md R533). -/
def Vdc.satDma (p : Params) (v : Vdc) : Vdc × Bool :=
  if v.satPending || v.dcr.getLsbD 4 then
    Vdc.raise
      { v with
        sat := v.satCopy p, satPending := false, satDmaCount := v.satDmaCount + 1
        lastDmaSrc := v.dvssr, lastDmaLen := 256 }
      .satDma
  else (v, false)

/-! ### Ports (61_video.md R510-R515, R520) -/

/-- Port 0 write: register select (61_video.md R511). -/
def Vdc.writeSelect (v : Vdc) (b : Byte) : Vdc := { v with ar := b.extractLsb' 0 5 }

/-- The effects of a register write that its low or high half shares: BYR sets BgY
(61_video.md R512). -/
def Vdc.eitherEffect (r : VdcReg) (v : Vdc) : Vdc :=
  match r with
  | .byr => { v with bgY := v.byr.extractLsb' 0 9 }
  | _ => v

/-- The effects of a high-byte register write (61_video.md R512). -/
def Vdc.highEffect (p : Params) (r : VdcReg) (v : Vdc) : Vdc × Bool :=
  match r with
  | .marr => ({ v with rLatch := v.vramRead p v.marr }, false)
  | .lenr => v.vramDma p
  | .dvssr => ({ v with satPending := true }, false)
  | r => (v.eitherEffect r, false)

/-- Port 2 write: data low byte (61_video.md R512). -/
def Vdc.writeLow (v : Vdc) (b : Byte) : Vdc :=
  if v.ar = 0x02 then { v with wLatch := b }
  else match v.selected with
    | some r => (v.setReg r (joinBytes b (hiByte (v.reg r)))).eitherEffect r
    | none => v

/-- Port 3 write: data high byte (61_video.md R512). -/
def Vdc.writeHigh (p : Params) (v : Vdc) (b : Byte) : Vdc × Bool :=
  if v.ar = 0x02 then
    ({ v.vramWrite p v.mawr (joinBytes v.wLatch b) with mawr := v.mawr + v.inc }, false)
  else match v.selected with
    | some r => (v.setReg r (joinBytes (loByte (v.reg r)) b)).highEffect p r
    | none => (v, false)

/-- Port 0 read: the status byte, then VdcSt <- 0 (61_video.md R520). -/
def Vdc.readStatus (v : Vdc) : Byte × Vdc := (v.st.zeroExtend 8, { v with st := 0 })

/-- Port 2 read: data low byte (61_video.md R513). -/
def Vdc.readLow (v : Vdc) : Byte :=
  if v.ar = 0x02 then loByte v.rLatch
  else match v.selected with
    | some r => loByte (v.reg r)
    | none => 0

/-- Port 3 read: data high byte; with AR = $02 it advances MARR and refills the latch
(61_video.md R513). -/
def Vdc.readHigh (p : Params) (v : Vdc) : Byte × Vdc :=
  if v.ar = 0x02 then
    (hiByte v.rLatch,
      { v with marr := v.marr + v.inc, rLatch := v.vramRead p (v.marr + v.inc) })
  else match v.selected with
    | some r => (hiByte (v.reg r), v)
    | none => (0, v)

/-! ### Geometry (61_video.md R503, R536) -/

/-- ACTIVE_START = VSW + VDS + 3 (61_video.md R536). -/
def Vdc.activeStart (v : Vdc) : Nat :=
  (v.vpr.extractLsb' 0 5).toNat + (v.vpr.extractLsb' 8 8).toNat + 3

/-- ACTIVE_END (61_video.md R536). -/
def Vdc.activeEnd (p : Params) (v : Vdc) : Nat :=
  min (v.activeStart + (v.vdw.extractLsb' 0 9).toNat + 1) p.linesPerFrame

/-- Whether line l is active (61_video.md R536). -/
def Vdc.isActive (p : Params) (v : Vdc) (l : Nat) : Bool :=
  decide (v.activeStart ≤ l) && decide (l < v.activeEnd p)

/-- VB_LINE (61_video.md R536). -/
def Vdc.vbLine (p : Params) (v : Vdc) : Nat := min (v.activeEnd p) (p.linesPerFrame - 1)

/-- The display width W = (HDW + 1) x 8 in pixels (61_video.md R536). -/
def Vdc.width (v : Vdc) : Nat := ((v.hdr.extractLsb' 0 7).toNat + 1) * 8

/-- The raster counter RC at line l, the `mod` taken as the residue 0 .. LINES_PER_FRAME - 1 (DEDUCED,
log 23; 61_video.md R538). -/
def Vdc.rasterCount (p : Params) (v : Vdc) (l : Nat) : Nat :=
  64 + (((l : Int) - (v.activeStart : Int)) % (p.linesPerFrame : Int)).toNat

end Sys2Proof.Machine
end

