-- ==== Sys2Proof/Machine/Bus.lean ====
section
/-! DEFINITION. The bus: address translation, the page map, the hardware-page decoder and the one-byte
accesses (20_memory.md R72-R99). -/

namespace Sys2Proof.Machine

/-- A draw: the next free value of `f` (00_scope.md R14, log 2). -/
def State.draw {α : Type} (f : Nat → α) (s : State) : α × State :=
  (f s.draws, { s with draws := s.draws + 1 })

/-- A physical address, `page : offset` (20_memory.md R80). -/
structure Phys where
  page : Byte
  offset : BitVec 13
deriving DecidableEq, Repr

/-- The slot of a logical address, `addr[15:13]` (20_memory.md R78). -/
def slotOf (a : Word) : Fin 8 := (a.extractLsb' 13 3).toFin

/-- Translate (20_memory.md R78). -/
def State.translate (s : State) (a : Word) : Phys :=
  { page := s.mpr[slotOf a], offset := a.extractLsb' 0 13 }

/-- The device ports of the hardware page (20_memory.md R79, R92). -/
inductive HwPort where
  | mprAlias (slot : Fin 8)
  | vdcStatus | vdcLow | vdcHigh
  | vceControl | vceAddrLow | vceAddrHigh | vceDataLow | vceDataHigh
  | psg (index : BitVec 4)
  | timerReload | timerControl
  | joypad
  | irqDisable | irqStatus
deriving DecidableEq, Repr

/-- Where a physical address leads: a byte of one of the four memories, a device port, or nowhere
(20_memory.md R80). -/
inductive Place where
  | rom (k : Nat)
  | wram (k : Nat)
  | cart (k : Nat)
  | store (o : Nat)
  | port (q : HwPort)
  | unmapped
deriving DecidableEq, Repr

/-- The slot an offset names in the alias window, if there is one (20_memory.md R79). -/
def aliasSlot (p : Params) (o : Nat) : Option (Fin 8) :=
  match p.mprAlias with
  | some base => if base ≤ o ∧ o ≤ base + 7 then some (Fin.ofNat 8 (o - base)) else none
  | none => none

/-- The region decode of the hardware page (20_memory.md R91-R99). The example of 44_block_transfer.md R343
has TIN to address $0004 reach the VCE port $0404; R91 and R93 decode offset $0004 to the VDC, and so does
the model (DEDUCED, log 30). -/
def regionDecode (p : Params) (o : Nat) : Place :=
  match o / 0x400 with
  | 0 =>
    if o < p.vdcSpan then
      match o % 4 with
      | 0 => .port .vdcStatus
      | 2 => .port .vdcLow
      | 3 => .port .vdcHigh
      | _ => .store o
    else .store o
  | 1 =>
    match o % 8 with
    | 0 => .port .vceControl
    | 2 => .port .vceAddrLow
    | 3 => .port .vceAddrHigh
    | 4 => .port .vceDataLow
    | 5 => .port .vceDataHigh
    | _ => .store o
  | 2 => .port (.psg (BitVec.ofNat 4 o))
  | 3 =>
    match o % 2 with
    | 0 => .port .timerReload
    | _ => .port .timerControl
  | 4 => .port .joypad
  | 5 =>
    match o % 4 with
    | 2 => .port .irqDisable
    | 3 => .port .irqStatus
    | _ => .store o
  | _ => .store o

/-- The hardware-page decoder, the alias window first (20_memory.md R79, R90). -/
def hwDecode (p : Params) (o : Nat) : Place :=
  match aliasSlot p o with
  | some i => .port (.mprAlias i)
  | none => regionDecode p o

/-- ROM_BANK_MAP (20_memory.md R81). -/
def romBank (p : Params) (page : Nat) : Nat :=
  match p.romBankMap[page]? with
  | some b => b
  | none => page % p.romBanks

/-- The page map (20_memory.md R80-R85). A page id outside WRAM_PAGES keeps its fixed target; $00-$7F,
$F7 and $FF are never work RAM (DEDUCED, log 17). With CART_RAM_SIZE = 0, where the spec gives
`off mod 0` no value, the whole offset is the key, so page $F7 holds 8192 bytes (DESIGN CHOICE, log
28). -/
def placeOf (p : Params) (ph : Phys) : Place :=
  if ph.page.toNat < 0x80 then .rom (romBank p ph.page.toNat * 8192 + ph.offset.toNat)
  else if ph.page = 0xFF then hwDecode p ph.offset.toNat
  else if ph.page = 0xF7 then .cart (ph.offset.toNat % p.cartRamSize)
  else if ph.page ∈ p.wramPages then .wram ph.offset.toNat
  else .unmapped

/-- Where a logical address leads now. -/
def State.place (s : State) (a : Word) : Place := placeOf s.params (s.translate a)

/-- A byte of one of the four memories, without side effect; 0 for a port or an unmapped place. -/
def State.byteAt (s : State) : Place → Byte
  | .rom k => s.rom.get k
  | .wram k => s.wram.get k
  | .cart k => s.cartRam.get k
  | .store o => s.fallback.get o
  | .port _ => 0
  | .unmapped => 0

/-- Take a VDC action's result: the new VDC, and IRQ1 requested if it raised it (60_exceptions.md
R414). -/
def State.vdcAct (s : State) (r : Vdc × Bool) : State :=
  { s with vdc := r.1, irq := s.irq.raise 1 r.2 }

/-- A device port read, with its side effect (20_memory.md R92, R100). -/
def State.portRead (s : State) : HwPort → Byte × State
  | .mprAlias i => (s.mpr[i], s)
  | .vdcStatus => (s.vdc.readStatus.1, { s with vdc := s.vdc.readStatus.2 })
  | .vdcLow => (s.vdc.readLow, s)
  | .vdcHigh => ((s.vdc.readHigh s.params).1, { s with vdc := (s.vdc.readHigh s.params).2 })
  | .vceControl => (0xFF, s)
  | .vceAddrLow => (s.vce.cta.extractLsb' 0 8, s)
  | .vceAddrHigh => (feOr (s.vce.cta.getLsbD 8), s)
  | .vceDataLow => (s.vce.entry.extractLsb' 0 8, s)
  | .vceDataHigh => (s.vce.readDataHigh.1, { s with vce := s.vce.readDataHigh.2 })
  | .psg _ => s.draw Config.psgByte
  | .timerReload => (s.timer.counter.zeroExtend 8, s)
  | .timerControl => (if s.timer.enabled then 1 else 0, s)
  | .joypad =>
    let r := s.draw Config.padButtons
    (padByte s.params s.pad r.1, r.2)
  | .irqDisable => (s.irq.mask.zeroExtend 8, s)
  | .irqStatus => (s.irq.req.zeroExtend 8, s)

/-- A device port write (20_memory.md R92). -/
def State.portWrite (s : State) (b : Byte) : HwPort → State
  | .mprAlias i => { s with mpr := s.mpr.set i b }
  | .vdcStatus => { s with vdc := s.vdc.writeSelect b }
  | .vdcLow => { s with vdc := s.vdc.writeLow b }
  | .vdcHigh => s.vdcAct (s.vdc.writeHigh s.params b)
  | .vceControl => { s with vce := { s.vce with cr := b } }
  | .vceAddrLow => { s with vce := s.vce.writeAddrLow b }
  | .vceAddrHigh => { s with vce := s.vce.writeAddrHigh b }
  | .vceDataLow => { s with vce := s.vce.writeDataLow b }
  | .vceDataHigh => { s with vce := s.vce.writeDataHigh b }
  | .psg i => { s with psgWrites := (i, b) :: s.psgWrites }
  | .timerReload => { s with timer := s.timer.writeReload b }
  | .timerControl => { s with timer := s.timer.writeControl b }
  | .joypad => { s with pad := padWrite b }
  | .irqDisable => { s with irq := { s.irq with mask := b.extractLsb' 0 3 } }
  | .irqStatus => { s with irq := s.irq.clear 2 }

/-- A read where an address leads (20_memory.md R81-R85, R99). -/
def State.readPlace (s : State) (pl : Place) : Byte × State :=
  match pl with
  | .rom k => (s.rom.get k, s)
  | .wram k => (s.wram.get k, s)
  | .cart k => (s.cartRam.get k, s)
  | .store o => (s.fallback.get o, s)
  | .port q => s.portRead q
  | .unmapped => s.draw Config.unmappedByte

/-- A write where an address leads; ROM and unmapped pages ignore it (20_memory.md R81-R85, R99). -/
def State.writePlace (s : State) (pl : Place) (b : Byte) : State :=
  match pl with
  | .rom _ => s
  | .wram k => { s with wram := s.wram.set k b }
  | .cart k => { s with cartRam := s.cartRam.set k b }
  | .store o => { s with fallback := s.fallback.set o b }
  | .port q => s.portWrite b q
  | .unmapped => s

/-- PhysRead (00_scope.md R13). -/
def physRead (ph : Phys) (s : State) : Byte × State := s.readPlace (placeOf s.params ph)

/-- PhysWrite (00_scope.md R13). -/
def physWrite (ph : Phys) (b : Byte) (s : State) : State := s.writePlace (placeOf s.params ph) b

/-- MemRead(addr, 1) (20_memory.md R78). -/
def memRead (a : Word) (s : State) : Byte × State := physRead (s.translate a) s

/-- MemWrite(addr, 1, v) (20_memory.md R78). -/
def memWrite (a : Word) (b : Byte) (s : State) : State := physWrite (s.translate a) b s

/-- Read16: the low byte, then the high byte at the next address (00_scope.md R13, 20_memory.md R77). -/
def read16 (a : Word) (s : State) : Word × State :=
  let lo := memRead a s
  let hi := memRead (a + 1) lo.2
  (joinBytes lo.1 hi.1, hi.2)

/-- ZpRead (00_scope.md R13). -/
def zpRead (z : Byte) (s : State) : Byte × State := memRead (zpAddr z) s

/-- ZpWrite (00_scope.md R13). -/
def zpWrite (z : Byte) (b : Byte) (s : State) : State := memWrite (zpAddr z) b s

/-- A zero-page pointer, its high byte inside the zero page (20_memory.md R77). -/
def zpRead16 (z : Byte) (s : State) : Word × State :=
  let lo := zpRead z s
  let hi := zpRead (z + 1) lo.2
  (joinBytes lo.1 hi.1, hi.2)

end Sys2Proof.Machine
end

