-- ==== Sys2Proof/Machine/Ops.lean ====
section
/-! DEFINITION. Operations over the CPU's registers and the stack, the end of an instruction, taking an
interrupt and returning from one (00_scope.md R13, R14; 60_exceptions.md R405; 42_control.md R276,
R277). -/

namespace Sys2Proof.Machine

/-- What a meaning answers. -/
abbrev Out := Host.Outcome State Fault Refusal

/-! ### Registers -/

/-- `A <- v`. -/
def State.setA (s : State) (v : Byte) : State := { s with cpu := { s.cpu with a := v } }
/-- `X <- v`. -/
def State.setX (s : State) (v : Byte) : State := { s with cpu := { s.cpu with x := v } }
/-- `Y <- v`. -/
def State.setY (s : State) (v : Byte) : State := { s with cpu := { s.cpu with y := v } }
/-- `S <- v`. -/
def State.setSp (s : State) (v : Byte) : State := { s with cpu := { s.cpu with sp := v } }
/-- `PC <- w`. -/
def State.setPc (s : State) (w : Word) : State := { s with cpu := { s.cpu with pc := w } }
/-- `P <- f`. -/
def State.setP (s : State) (f : Flags) : State := { s with cpu := { s.cpu with p := f } }

/-- SetNZ (00_scope.md R14). -/
def Flags.setNZ (f : Flags) (v : Byte) : Flags := { f with n := v.msb, z := v == 0 }

/-- SetNZ on the state. -/
def State.setNZ (s : State) (v : Byte) : State := s.setP (s.cpu.p.setNZ v)

/-- P_byte(b) (10_state.md R35). -/
def Flags.toByte (f : Flags) (b : Bool) : Byte :=
  BitVec.ofBool f.n ++ BitVec.ofBool f.v ++ BitVec.ofBool f.t ++ BitVec.ofBool b
    ++ BitVec.ofBool f.d ++ BitVec.ofBool f.i ++ BitVec.ofBool f.z ++ BitVec.ofBool f.c

/-- LoadP(v); bit 4 is ignored (10_state.md R35). -/
def Flags.ofByte (v : Byte) : Flags where
  n := v.getLsbD 7
  v := v.getLsbD 6
  t := v.getLsbD 5
  d := v.getLsbD 3
  i := v.getLsbD 2
  z := v.getLsbD 1
  c := v.getLsbD 0

/-! ### Stack (00_scope.md R13) -/

/-- Push(v). -/
def push (v : Byte) (s : State) : State :=
  let t := memWrite (stackAddr s.cpu.sp) v s
  t.setSp (t.cpu.sp - 1)

/-- Pull(). -/
def pull (s : State) : Byte × State :=
  let t := s.setSp (s.cpu.sp + 1)
  memRead (stackAddr t.cpu.sp) t

/-- Push a 16-bit value, high byte first (20_memory.md R70). -/
def push16 (w : Word) (s : State) : State := push (loByte w) (push (hiByte w) s)

/-- Pull a 16-bit value, low byte first (20_memory.md R70). -/
def pull16 (s : State) : Word × State :=
  let lo := pull s
  let hi := pull lo.2
  (joinBytes lo.1 hi.1, hi.2)

/-! ### Fetch (00_scope.md R13) -/

/-- Fetch(): the byte at PC, PC advanced by 1. -/
def fetch (s : State) : Byte × State :=
  let r := memRead s.cpu.pc s
  (r.1, r.2.setPc (r.2.cpu.pc + 1))

/-- n bytes fetched in address order (20_memory.md R74). -/
def fetchBytes : Nat → State → List Byte × State
  | 0, s => ([], s)
  | n + 1, s =>
    let b := fetch s
    let r := fetchBytes n b.2
    (b.1 :: r.1, r.2)

/-! ### The end of an instruction -/

/-- Record the cost and end the instruction with `P.T <- t` and `AfterSet <- t`: t holds for SET alone
(10_state.md R36, R42; 60_exceptions.md R460). -/
def State.endWith (t : Bool) (c : Nat) (s : State) : State :=
  { s with cycles := c, cpu := { s.cpu with p := { s.cpu.p with t := t }, afterSet := t } }

/-- The end of every instruction but SET, with its cost (10_state.md R36). -/
def finish (c : Nat) (s : State) : Out := .next (s.endWith false c)

/-! ### Interrupts (60_exceptions.md R405, 42_control.md R276, R277) -/

/-- Clear the request of a source on entry; BRK has none (60_exceptions.md R404). -/
def State.clearRequest (s : State) : Source → State
  | .nmi => { s with cpu := { s.cpu with nmiPending := false } }
  | .timer => { s with irq := s.irq.clear 2 }
  | .irq1 => { s with irq := s.irq.clear 1 }
  | .irq2 => { s with irq := s.irq.clear 0 }
  | .brk => s

/-- I <- 1, D <- 0, T <- 0 (60_exceptions.md R405). -/
def Flags.onEntry (f : Flags) : Flags := { f with i := true, d := false, t := false }

/-- Enter a source's vector: push PC and P (B = 1 for BRK alone), set I, clear D and T, clear the
request, load PC from the vector (60_exceptions.md R405, 42_control.md R277). -/
def enterVector (src : Source) (s : State) : State :=
  let s1 := push16 s.cpu.pc s
  let s2 := push (s1.cpu.p.toByte (src = .brk)) s1
  let s3 := (s2.setP s2.cpu.p.onEntry).clearRequest src
  let v := read16 src.vector s3
  v.2.setPc v.1

/-- The interrupt entry step: vector, Running, AfterSet cleared, the entry cost (60_exceptions.md
R405). -/
def interruptEntry (src : Source) (s : State) : State :=
  let t := enterVector src s
  { t with cycles := t.params.cyc.entry
           cpu := { t.cpu with runState := .running, afterSet := false } }

/-- Return from interrupt: pull P, then PC (42_control.md R276). -/
def returnFromInterrupt (s : State) : State :=
  let b := pull s
  let r := pull16 (b.2.setP (Flags.ofByte b.1))
  r.2.setPc r.1

end Sys2Proof.Machine
end

