-- ==== Sys2Proof/Machine/Flags.lean ====
section
/-! DEFINITION. Every computation of a result with its flags: the binary and decimal adders, logic,
compare, bit tests, increments, shifts and rotates (41_alu.md). -/

namespace Sys2Proof.Machine

/-! ### Adders -/

/-- Add8 (41_alu.md R201): the sum, the carry out and the signed overflow. -/
def add8 (a b : Byte) (c : Bool) : Byte × Bool × Bool :=
  let s := a.toNat + b.toNat + c.toNat
  let r := BitVec.ofNat 8 (s % 256)
  (r, decide (256 ≤ s), (a ^^^ r) &&& (b ^^^ r) &&& 0x80#8 ≠ 0#8)

/-- DecAdd (41_alu.md R202). -/
def decAdd (a m : Byte) (c : Bool) : Byte × Bool :=
  let lo := a.toNat % 16 + m.toNat % 16 + c.toNat
  let lo := if 9 < lo then lo + 6 else lo
  let hi := a.toNat / 16 + m.toNat / 16 + (if 15 < lo then 1 else 0)
  let hi := if 9 < hi then hi + 6 else hi
  (BitVec.ofNat 8 ((hi * 16 + lo % 16) % 256), decide (15 < hi))

/-- DecSub (41_alu.md R202): integers, the low nibble and the result as two's-complement residues. -/
def decSub (a m : Byte) (c : Bool) : Byte × Bool :=
  let b : Int := 1 - (c.toNat : Int)
  let lo : Int := (a.toNat % 16 : Nat) - (m.toNat % 16 : Nat) - b
  let hi : Int := (a.toNat / 16 : Nat) - (m.toNat / 16 : Nat)
  let hi := if lo < 0 then hi - 1 else hi
  let lo := if lo < 0 then lo - 6 else lo
  let hi := if hi < 0 then hi - 6 else hi
  (BitVec.ofNat 8 ((hi * 16 + lo % 16) % 256).toNat, decide (0 ≤ (a.toNat : Int) - m.toNat - b))

/-- Whether both nibbles are decimal digits (41_alu.md R202). -/
def isBcd (b : Byte) : Bool := decide (b.toNat % 16 ≤ 9) && decide (b.toNat / 16 ≤ 9)

/-- The flags of an adder: N and Z of the result, V and C as given (41_alu.md R206). -/
def Flags.ofAdd (f : Flags) (r : Byte) (c v : Bool) : Flags :=
  { f with n := r.msb, z := r == 0, c := c, v := v }

/-- The result and carry of a decimal ADC or SBC; draws where BCD_INVALID = Draw and an operand is not
BCD (41_alu.md R202). -/
def decimalResult (sub : Bool) (acc m : Byte) (s : State) : (Byte × Bool) × State :=
  if s.params.bcdInvalid = .draw ∧ (!isBcd acc || !isBcd m) then
    let r := s.draw Config.invalidBcdResult
    let c := r.2.draw Config.invalidBcdCarry
    ((r.1, c.1), c.2)
  else (if sub then decSub acc m s.cpu.p.c else decAdd acc m s.cpu.p.c, s)

/-- ADC or SBC of an accumulator operand and M: the result, and the state with N, V, Z, C written; V of a
decimal operation is a draw (41_alu.md R203, R206, R207). -/
def addOp (sub : Bool) (acc m : Byte) (s : State) : Byte × State :=
  if s.cpu.p.d then
    let r := decimalResult sub acc m s
    let v := r.2.draw Config.decimalV
    (r.1.1, v.2.setP (v.2.cpu.p.ofAdd r.1.1 r.1.2 v.1))
  else
    let r := add8 acc (if sub then ~~~m else m) s.cpu.p.c
    (r.1, s.setP (s.cpu.p.ofAdd r.1 r.2.1 r.2.2))

/-! ### The five T-mode operations (41_alu.md R204) -/

/-- The operations T-mode redirects. -/
inductive AluOp where
  | adc | sbc | and | ora | eor
deriving DecidableEq, Repr

/-- The logic result with N and Z (41_alu.md R208-R210). -/
def logicOp (r : Byte) (s : State) : Byte × State := (r, s.setNZ r)

/-- One operation on an accumulator operand and M (41_alu.md R205-R210). -/
def AluOp.apply (op : AluOp) (acc m : Byte) (s : State) : Byte × State :=
  match op with
  | .adc => addOp false acc m s
  | .sbc => addOp true acc m s
  | .and => logicOp (acc &&& m) s
  | .ora => logicOp (acc ||| m) s
  | .eor => logicOp (acc ^^^ m) s

/-- The decimal extra of ADC and SBC (70_reset_and_hazards.md R620). -/
def AluOp.extra (op : AluOp) (s : State) : Nat :=
  match op with
  | .adc | .sbc => if s.cpu.p.d then s.params.cyc.decimalExtra else 0
  | .and | .ora | .eor => 0

/-! ### Compare and bit tests -/

/-- The flags of a compare of r with M: unsigned, V unchanged (41_alu.md R211). -/
def Flags.compare (f : Flags) (r m : Byte) : Flags :=
  { f with n := (r - m).msb, z := r == m, c := decide (m.toNat ≤ r.toNat) }

/-- The flags of BIT and TST: Z of the masked byte, N and V of the byte (41_alu.md R214, R215). -/
def Flags.bitTest (f : Flags) (mask m : Byte) : Flags :=
  { f with z := mask &&& m == 0, n := m.getLsbD 7, v := m.getLsbD 6 }

/-- The flags of TSB and TRB with A, the byte M before and r after (41_alu.md R216, R217). -/
def Flags.testSet (f : Flags) (nv : TsbTrbNv) (a m r : Byte) : Flags :=
  match nv with
  | .operand => { f with z := a &&& m == 0, n := m.getLsbD 7, v := m.getLsbD 6 }
  | .result => { f with z := a &&& m == 0, n := r.getLsbD 7, v := r.getLsbD 6 }
  | .unchanged => { f with z := a &&& m == 0 }

/-! ### Read-modify-write (41_alu.md R218, R219, R224-R227) -/

/-- The read-modify-write operations that have an accumulator form. -/
inductive RmwOp where
  | inc | dec | asl | lsr | rol | ror
deriving DecidableEq, Repr

/-- The result and flags of a read-modify-write of M. -/
def RmwOp.apply (op : RmwOp) (m : Byte) (f : Flags) : Byte × Flags :=
  match op with
  | .inc => (m + 1, f.setNZ (m + 1))
  | .dec => (m - 1, f.setNZ (m - 1))
  | .asl => (m <<< 1, Flags.setNZ { f with c := m.getLsbD 7 } (m <<< 1))
  | .lsr => (m >>> 1, Flags.setNZ { f with c := m.getLsbD 0 } (m >>> 1))
  | .rol =>
    let r := m <<< 1 ||| (BitVec.ofBool f.c).zeroExtend 8
    (r, Flags.setNZ { f with c := m.getLsbD 7 } r)
  | .ror =>
    let r := m >>> 1 ||| (BitVec.ofBool f.c).zeroExtend 8 <<< 7
    (r, Flags.setNZ { f with c := m.getLsbD 0 } r)

end Sys2Proof.Machine
end

