-- ==== Sys2Proof/Machine/Operands.lean ====
section
/-! DEFINITION. Every operand form: effective addresses, operand reads, branch targets and the cost class
of a form (30_encoding.md R140-R157, 70_reset_and_hazards.md R620). -/

namespace Sys2Proof.Machine

/-- A memory operand with its operand bytes (30_encoding.md R143-R151). -/
inductive Addr where
  | zp (zz : Byte)
  | zpX (zz : Byte)
  | zpY (zz : Byte)
  | ind (zz : Byte)
  | indX (zz : Byte)
  | indY (zz : Byte)
  | abs (hhll : Word)
  | absX (hhll : Word)
  | absY (hhll : Word)
deriving DecidableEq, Repr

/-- An operand: immediate or in memory (41_alu.md R200). -/
inductive Operand where
  | imm (nn : Byte)
  | mem (m : Addr)
deriving DecidableEq, Repr

/-- The mode of a memory operand. -/
def Addr.mode : Addr → AddrMode
  | .zp _ => .zp
  | .zpX _ => .zpX
  | .zpY _ => .zpY
  | .ind _ => .ind
  | .indX _ => .indX
  | .indY _ => .indY
  | .abs _ => .abs
  | .absX _ => .absX
  | .absY _ => .absY

/-- The effective address, and the state after the pointer reads it takes (30_encoding.md
R143-R151). -/
def ea (m : Addr) (s : State) : Word × State :=
  match m with
  | .zp z => (zpAddr z, s)
  | .zpX z => (zpAddr (z + s.cpu.x), s)
  | .zpY z => (zpAddr (z + s.cpu.y), s)
  | .ind z => zpRead16 z s
  | .indX z => zpRead16 (z + s.cpu.x) s
  | .indY z =>
    let r := zpRead16 z s
    (r.1 + r.2.cpu.y.zeroExtend 16, r.2)
  | .abs w => (w, s)
  | .absX w => (w + s.cpu.x.zeroExtend 16, s)
  | .absY w => (w + s.cpu.y.zeroExtend 16, s)

/-- The operand M and the state after reading it (41_alu.md R200). -/
def readOperand (o : Operand) (s : State) : Byte × State :=
  match o with
  | .imm b => (b, s)
  | .mem m =>
    let e := ea m s
    memRead e.1 e.2

/-- A value stored at a memory operand (40_load_store.md R164). -/
def storeAt (m : Addr) (v : Byte) (s : State) : State :=
  let e := ea m s
  memWrite e.1 v e.2

/-- A relative target: the address of the next instruction plus the sign-extended displacement
(30_encoding.md R154). -/
def relTarget (pcNext : Word) (rr : Byte) : Word := pcNext + sext8 rr

/-! ### Cost classes (70_reset_and_hazards.md R620) -/

/-- Loads, stores, ALU, compares and BIT on a memory operand. -/
def Addr.cost (m : Addr) (c : CycleTable) : Nat :=
  match m with
  | .zp _ | .zpX _ | .zpY _ => c.zp
  | .ind _ | .indX _ | .indY _ => c.ind
  | .abs _ | .absX _ | .absY _ => c.abs

/-- The same on any operand. -/
def Operand.cost (o : Operand) (c : CycleTable) : Nat :=
  match o with
  | .imm _ => c.imm
  | .mem m => m.cost c

/-- Read-modify-write, TSB and TRB on a memory operand. -/
def Addr.rmwCost (m : Addr) (c : CycleTable) : Nat :=
  match m with
  | .zp _ | .zpX _ | .zpY _ | .ind _ | .indX _ | .indY _ => c.rmwZp
  | .abs _ | .absX _ | .absY _ => c.rmwAbs

/-- TST on a memory operand. -/
def Addr.tstCost (m : Addr) (c : CycleTable) : Nat :=
  match m with
  | .zp _ | .zpX _ | .zpY _ | .ind _ | .indX _ | .indY _ => c.tstZp
  | .abs _ | .absX _ | .absY _ => c.tstAbs

end Sys2Proof.Machine
end

