-- ==== Sys2Proof/Machine/Alu.lean ====
section
/-! DEFINITION. Arithmetic, logic, compare, bit tests, read-modify-write, zero-page bit instructions and
T-mode (41_alu.md). -/

namespace Sys2Proof.Machine

/-! ### Shared operations -/

/-- Whether an instruction of the five T-mode operations runs in T-mode: P.T at its start, and a memory
mode of T_MODE_SET (41_alu.md R204). -/
def tModeApplies (o : Operand) (s : State) : Bool :=
  match o with
  | .imm _ => false
  | .mem m => s.cpu.p.t && decide (m.mode ∈ s.params.tModeSet)

/-- ExecALU in normal mode: A is the accumulator operand (41_alu.md R205). -/
def aluOnA (op : AluOp) (o : Operand) (s : State) : State :=
  let m := readOperand o s
  let r := op.apply m.2.cpu.a m.1 m.2
  r.2.setA r.1

/-- ExecALU in T-mode: the zero-page byte at X is read after the operand and takes the result; A is not
touched (41_alu.md R205). -/
def aluOnMemory (op : AluOp) (o : Operand) (s : State) : State :=
  let m := readOperand o s
  let acc := zpRead m.2.cpu.x m.2
  let r := op.apply acc.1 m.1 acc.2
  zpWrite r.2.cpu.x r.1 r.2

/-- ExecALU with its cost, the decimal and T-mode extras added (41_alu.md R205,
70_reset_and_hazards.md R620). -/
def execAlu (op : AluOp) (o : Operand) (s : State) : Out :=
  if tModeApplies o s then
    finish (o.cost s.params.cyc + op.extra s + s.params.cyc.tModeExtra) (aluOnMemory op o s)
  else finish (o.cost s.params.cyc + op.extra s) (aluOnA op o s)

/-- A compare of a register with the operand (41_alu.md R211-R213). -/
def compareWith (reg : Byte) (o : Operand) (s : State) : Out :=
  let m := readOperand o s
  finish (o.cost s.params.cyc) (m.2.setP (m.2.cpu.p.compare reg m.1))

/-- BIT of a mask and the operand (41_alu.md R214). -/
def bitWith (mask : Byte) (o : Operand) (s : State) : Out :=
  let m := readOperand o s
  finish (o.cost s.params.cyc) (m.2.setP (m.2.cpu.p.bitTest mask m.1))

/-- TST of an immediate mask and a memory operand (41_alu.md R215). -/
def tstWith (mask : Byte) (a : Addr) (s : State) : Out :=
  let m := readOperand (.mem a) s
  finish (a.tstCost s.params.cyc) (m.2.setP (m.2.cpu.p.bitTest mask m.1))

/-- TSB and TRB: read, write back `f A M`, flags by TSB_TRB_NV (41_alu.md R216, R217). -/
def testSet (f : Byte → Byte → Byte) (a : Addr) (s : State) : Out :=
  let e := ea a s
  let m := memRead e.1 e.2
  let r := f m.2.cpu.a m.1
  let t := memWrite e.1 r m.2
  finish (a.rmwCost s.params.cyc)
    (t.setP (t.cpu.p.testSet s.params.tsbTrbNv s.cpu.a m.1 r))

/-- A read-modify-write of A (41_alu.md R200). -/
def rmwA (op : RmwOp) (s : State) : Out :=
  let r := op.apply s.cpu.a s.cpu.p
  finish s.params.cyc.implied ((s.setA r.1).setP r.2)

/-- A read-modify-write of memory: one read, one write (41_alu.md R200). -/
def rmwMem (op : RmwOp) (a : Addr) (s : State) : Out :=
  let e := ea a s
  let m := memRead e.1 e.2
  let r := op.apply m.1 m.2.cpu.p
  finish (a.rmwCost s.params.cyc) ((memWrite e.1 r.1 m.2).setP r.2)

/-- INX, INY, DEX and DEY: the stepped value into the register, N and Z from it (41_alu.md R220-R223). -/
def stepRegister (put : State → Byte → State) (v : Byte) (s : State) : Out :=
  finish s.params.cyc.implied ((put s v).setNZ v)

/-- RMBi and SMBi: one read and one write of a zero-page byte, no flag (41_alu.md R228, R229). -/
def zpBit (f : Byte → Byte) (zz : Byte) (s : State) : Out :=
  let m := zpRead zz s
  finish s.params.cyc.bitOp (zpWrite zz (f m.1) m.2)

/-! ### The instructions -/

/-- ADC (zz,X), $61 (41_alu.md R206). -/
def execAdcIndX (zz : Byte) (s : State) : Out := execAlu .adc (.mem (.indX zz)) s

/-- ADC zz, $65 (41_alu.md R206). -/
def execAdcZp (zz : Byte) (s : State) : Out := execAlu .adc (.mem (.zp zz)) s

/-- ADC #nn, $69 (41_alu.md R206). -/
def execAdcImm (nn : Byte) (s : State) : Out := execAlu .adc (.imm nn) s

/-- ADC hhll, $6D (41_alu.md R206). -/
def execAdcAbs (hhll : Word) (s : State) : Out := execAlu .adc (.mem (.abs hhll)) s

/-- ADC (zz),Y, $71 (41_alu.md R206). -/
def execAdcIndY (zz : Byte) (s : State) : Out := execAlu .adc (.mem (.indY zz)) s

/-- ADC (zz), $72 (41_alu.md R206). -/
def execAdcInd (zz : Byte) (s : State) : Out := execAlu .adc (.mem (.ind zz)) s

/-- ADC zz,X, $75 (41_alu.md R206). -/
def execAdcZpX (zz : Byte) (s : State) : Out := execAlu .adc (.mem (.zpX zz)) s

/-- ADC hhll,Y, $79 (41_alu.md R206). -/
def execAdcAbsY (hhll : Word) (s : State) : Out := execAlu .adc (.mem (.absY hhll)) s

/-- ADC hhll,X, $7D (41_alu.md R206). -/
def execAdcAbsX (hhll : Word) (s : State) : Out := execAlu .adc (.mem (.absX hhll)) s

/-- SBC (zz,X), $E1 (41_alu.md R207). -/
def execSbcIndX (zz : Byte) (s : State) : Out := execAlu .sbc (.mem (.indX zz)) s

/-- SBC zz, $E5 (41_alu.md R207). -/
def execSbcZp (zz : Byte) (s : State) : Out := execAlu .sbc (.mem (.zp zz)) s

/-- SBC #nn, $E9 (41_alu.md R207). -/
def execSbcImm (nn : Byte) (s : State) : Out := execAlu .sbc (.imm nn) s

/-- SBC hhll, $ED (41_alu.md R207). -/
def execSbcAbs (hhll : Word) (s : State) : Out := execAlu .sbc (.mem (.abs hhll)) s

/-- SBC (zz),Y, $F1 (41_alu.md R207). -/
def execSbcIndY (zz : Byte) (s : State) : Out := execAlu .sbc (.mem (.indY zz)) s

/-- SBC (zz), $F2 (41_alu.md R207). -/
def execSbcInd (zz : Byte) (s : State) : Out := execAlu .sbc (.mem (.ind zz)) s

/-- SBC zz,X, $F5 (41_alu.md R207). -/
def execSbcZpX (zz : Byte) (s : State) : Out := execAlu .sbc (.mem (.zpX zz)) s

/-- SBC hhll,Y, $F9 (41_alu.md R207). -/
def execSbcAbsY (hhll : Word) (s : State) : Out := execAlu .sbc (.mem (.absY hhll)) s

/-- SBC hhll,X, $FD (41_alu.md R207). -/
def execSbcAbsX (hhll : Word) (s : State) : Out := execAlu .sbc (.mem (.absX hhll)) s

/-- AND (zz,X), $21 (41_alu.md R208). -/
def execAndIndX (zz : Byte) (s : State) : Out := execAlu .and (.mem (.indX zz)) s

/-- AND zz, $25 (41_alu.md R208). -/
def execAndZp (zz : Byte) (s : State) : Out := execAlu .and (.mem (.zp zz)) s

/-- AND #nn, $29 (41_alu.md R208). -/
def execAndImm (nn : Byte) (s : State) : Out := execAlu .and (.imm nn) s

/-- AND hhll, $2D (41_alu.md R208). -/
def execAndAbs (hhll : Word) (s : State) : Out := execAlu .and (.mem (.abs hhll)) s

/-- AND (zz),Y, $31 (41_alu.md R208). -/
def execAndIndY (zz : Byte) (s : State) : Out := execAlu .and (.mem (.indY zz)) s

/-- AND (zz), $32 (41_alu.md R208). -/
def execAndInd (zz : Byte) (s : State) : Out := execAlu .and (.mem (.ind zz)) s

/-- AND zz,X, $35 (41_alu.md R208). -/
def execAndZpX (zz : Byte) (s : State) : Out := execAlu .and (.mem (.zpX zz)) s

/-- AND hhll,Y, $39 (41_alu.md R208). -/
def execAndAbsY (hhll : Word) (s : State) : Out := execAlu .and (.mem (.absY hhll)) s

/-- AND hhll,X, $3D (41_alu.md R208). -/
def execAndAbsX (hhll : Word) (s : State) : Out := execAlu .and (.mem (.absX hhll)) s

/-- ORA (zz,X), $01 (41_alu.md R209). -/
def execOraIndX (zz : Byte) (s : State) : Out := execAlu .ora (.mem (.indX zz)) s

/-- ORA zz, $05 (41_alu.md R209). -/
def execOraZp (zz : Byte) (s : State) : Out := execAlu .ora (.mem (.zp zz)) s

/-- ORA #nn, $09 (41_alu.md R209). -/
def execOraImm (nn : Byte) (s : State) : Out := execAlu .ora (.imm nn) s

/-- ORA hhll, $0D (41_alu.md R209). -/
def execOraAbs (hhll : Word) (s : State) : Out := execAlu .ora (.mem (.abs hhll)) s

/-- ORA (zz),Y, $11 (41_alu.md R209). -/
def execOraIndY (zz : Byte) (s : State) : Out := execAlu .ora (.mem (.indY zz)) s

/-- ORA (zz), $12 (41_alu.md R209). -/
def execOraInd (zz : Byte) (s : State) : Out := execAlu .ora (.mem (.ind zz)) s

/-- ORA zz,X, $15 (41_alu.md R209). -/
def execOraZpX (zz : Byte) (s : State) : Out := execAlu .ora (.mem (.zpX zz)) s

/-- ORA hhll,Y, $19 (41_alu.md R209). -/
def execOraAbsY (hhll : Word) (s : State) : Out := execAlu .ora (.mem (.absY hhll)) s

/-- ORA hhll,X, $1D (41_alu.md R209). -/
def execOraAbsX (hhll : Word) (s : State) : Out := execAlu .ora (.mem (.absX hhll)) s

/-- EOR (zz,X), $41 (41_alu.md R210). -/
def execEorIndX (zz : Byte) (s : State) : Out := execAlu .eor (.mem (.indX zz)) s

/-- EOR zz, $45 (41_alu.md R210). -/
def execEorZp (zz : Byte) (s : State) : Out := execAlu .eor (.mem (.zp zz)) s

/-- EOR #nn, $49 (41_alu.md R210). -/
def execEorImm (nn : Byte) (s : State) : Out := execAlu .eor (.imm nn) s

/-- EOR hhll, $4D (41_alu.md R210). -/
def execEorAbs (hhll : Word) (s : State) : Out := execAlu .eor (.mem (.abs hhll)) s

/-- EOR (zz),Y, $51 (41_alu.md R210). -/
def execEorIndY (zz : Byte) (s : State) : Out := execAlu .eor (.mem (.indY zz)) s

/-- EOR (zz), $52 (41_alu.md R210). -/
def execEorInd (zz : Byte) (s : State) : Out := execAlu .eor (.mem (.ind zz)) s

/-- EOR zz,X, $55 (41_alu.md R210). -/
def execEorZpX (zz : Byte) (s : State) : Out := execAlu .eor (.mem (.zpX zz)) s

/-- EOR hhll,Y, $59 (41_alu.md R210). -/
def execEorAbsY (hhll : Word) (s : State) : Out := execAlu .eor (.mem (.absY hhll)) s

/-- EOR hhll,X, $5D (41_alu.md R210). -/
def execEorAbsX (hhll : Word) (s : State) : Out := execAlu .eor (.mem (.absX hhll)) s

/-- CMP (zz,X), $C1 (41_alu.md R211). -/
def execCmpIndX (zz : Byte) (s : State) : Out := compareWith s.cpu.a (.mem (.indX zz)) s

/-- CMP zz, $C5 (41_alu.md R211). -/
def execCmpZp (zz : Byte) (s : State) : Out := compareWith s.cpu.a (.mem (.zp zz)) s

/-- CMP #nn, $C9 (41_alu.md R211). -/
def execCmpImm (nn : Byte) (s : State) : Out := compareWith s.cpu.a (.imm nn) s

/-- CMP hhll, $CD (41_alu.md R211). -/
def execCmpAbs (hhll : Word) (s : State) : Out := compareWith s.cpu.a (.mem (.abs hhll)) s

/-- CMP (zz),Y, $D1 (41_alu.md R211). -/
def execCmpIndY (zz : Byte) (s : State) : Out := compareWith s.cpu.a (.mem (.indY zz)) s

/-- CMP (zz), $D2 (41_alu.md R211). -/
def execCmpInd (zz : Byte) (s : State) : Out := compareWith s.cpu.a (.mem (.ind zz)) s

/-- CMP zz,X, $D5 (41_alu.md R211). -/
def execCmpZpX (zz : Byte) (s : State) : Out := compareWith s.cpu.a (.mem (.zpX zz)) s

/-- CMP hhll,Y, $D9 (41_alu.md R211). -/
def execCmpAbsY (hhll : Word) (s : State) : Out := compareWith s.cpu.a (.mem (.absY hhll)) s

/-- CMP hhll,X, $DD (41_alu.md R211). -/
def execCmpAbsX (hhll : Word) (s : State) : Out := compareWith s.cpu.a (.mem (.absX hhll)) s

/-- CPX #nn, $E0 (41_alu.md R212). -/
def execCpxImm (nn : Byte) (s : State) : Out := compareWith s.cpu.x (.imm nn) s

/-- CPX zz, $E4 (41_alu.md R212). -/
def execCpxZp (zz : Byte) (s : State) : Out := compareWith s.cpu.x (.mem (.zp zz)) s

/-- CPX hhll, $EC (41_alu.md R212). -/
def execCpxAbs (hhll : Word) (s : State) : Out := compareWith s.cpu.x (.mem (.abs hhll)) s

/-- CPY #nn, $C0 (41_alu.md R213). -/
def execCpyImm (nn : Byte) (s : State) : Out := compareWith s.cpu.y (.imm nn) s

/-- CPY zz, $C4 (41_alu.md R213). -/
def execCpyZp (zz : Byte) (s : State) : Out := compareWith s.cpu.y (.mem (.zp zz)) s

/-- CPY hhll, $CC (41_alu.md R213). -/
def execCpyAbs (hhll : Word) (s : State) : Out := compareWith s.cpu.y (.mem (.abs hhll)) s

/-- BIT zz, $24 (41_alu.md R214). -/
def execBitZp (zz : Byte) (s : State) : Out := bitWith s.cpu.a (.mem (.zp zz)) s

/-- BIT hhll, $2C (41_alu.md R214). -/
def execBitAbs (hhll : Word) (s : State) : Out := bitWith s.cpu.a (.mem (.abs hhll)) s

/-- BIT zz,X, $34 (41_alu.md R214). -/
def execBitZpX (zz : Byte) (s : State) : Out := bitWith s.cpu.a (.mem (.zpX zz)) s

/-- BIT hhll,X, $3C (41_alu.md R214). -/
def execBitAbsX (hhll : Word) (s : State) : Out := bitWith s.cpu.a (.mem (.absX hhll)) s

/-- BIT #nn, $89 (41_alu.md R214). -/
def execBitImm (nn : Byte) (s : State) : Out := bitWith s.cpu.a (.imm nn) s

/-- TST #nn,zz, $83 (41_alu.md R215). -/
def execTstImmZp (nn zz : Byte) (s : State) : Out := tstWith nn (.zp zz) s

/-- TST #nn,hhll, $93 (41_alu.md R215). -/
def execTstImmAbs (nn : Byte) (hhll : Word) (s : State) : Out := tstWith nn (.abs hhll) s

/-- TST #nn,zz,X, $A3 (41_alu.md R215). -/
def execTstImmZpX (nn zz : Byte) (s : State) : Out := tstWith nn (.zpX zz) s

/-- TST #nn,hhll,X, $B3 (41_alu.md R215). -/
def execTstImmAbsX (nn : Byte) (hhll : Word) (s : State) : Out := tstWith nn (.absX hhll) s

/-- TSB zz, $04 (41_alu.md R216). -/
def execTsbZp (zz : Byte) (s : State) : Out := testSet (fun a m => m ||| a) (.zp zz) s

/-- TSB hhll, $0C (41_alu.md R216). -/
def execTsbAbs (hhll : Word) (s : State) : Out := testSet (fun a m => m ||| a) (.abs hhll) s

/-- TRB zz, $14 (41_alu.md R217). -/
def execTrbZp (zz : Byte) (s : State) : Out := testSet (fun a m => m &&& ~~~a) (.zp zz) s

/-- TRB hhll, $1C (41_alu.md R217). -/
def execTrbAbs (hhll : Word) (s : State) : Out := testSet (fun a m => m &&& ~~~a) (.abs hhll) s

/-- INC A, $1A (41_alu.md R218). -/
def execIncA (s : State) : Out := rmwA .inc s

/-- INC zz, $E6 (41_alu.md R218). -/
def execIncZp (zz : Byte) (s : State) : Out := rmwMem .inc (.zp zz) s

/-- INC hhll, $EE (41_alu.md R218). -/
def execIncAbs (hhll : Word) (s : State) : Out := rmwMem .inc (.abs hhll) s

/-- INC zz,X, $F6 (41_alu.md R218). -/
def execIncZpX (zz : Byte) (s : State) : Out := rmwMem .inc (.zpX zz) s

/-- INC hhll,X, $FE (41_alu.md R218). -/
def execIncAbsX (hhll : Word) (s : State) : Out := rmwMem .inc (.absX hhll) s

/-- DEC A, $3A (41_alu.md R219). -/
def execDecA (s : State) : Out := rmwA .dec s

/-- DEC zz, $C6 (41_alu.md R219). -/
def execDecZp (zz : Byte) (s : State) : Out := rmwMem .dec (.zp zz) s

/-- DEC hhll, $CE (41_alu.md R219). -/
def execDecAbs (hhll : Word) (s : State) : Out := rmwMem .dec (.abs hhll) s

/-- DEC zz,X, $D6 (41_alu.md R219). -/
def execDecZpX (zz : Byte) (s : State) : Out := rmwMem .dec (.zpX zz) s

/-- DEC hhll,X, $DE (41_alu.md R219). -/
def execDecAbsX (hhll : Word) (s : State) : Out := rmwMem .dec (.absX hhll) s

/-- INX, $E8 (41_alu.md R220). -/
def execInx (s : State) : Out := stepRegister State.setX (s.cpu.x + 1) s

/-- INY, $C8 (41_alu.md R221). -/
def execIny (s : State) : Out := stepRegister State.setY (s.cpu.y + 1) s

/-- DEX, $CA (41_alu.md R222). -/
def execDex (s : State) : Out := stepRegister State.setX (s.cpu.x - 1) s

/-- DEY, $88 (41_alu.md R223). -/
def execDey (s : State) : Out := stepRegister State.setY (s.cpu.y - 1) s

/-- ASL zz, $06 (41_alu.md R224). -/
def execAslZp (zz : Byte) (s : State) : Out := rmwMem .asl (.zp zz) s

/-- ASL A, $0A (41_alu.md R224). -/
def execAslA (s : State) : Out := rmwA .asl s

/-- ASL hhll, $0E (41_alu.md R224). -/
def execAslAbs (hhll : Word) (s : State) : Out := rmwMem .asl (.abs hhll) s

/-- ASL zz,X, $16 (41_alu.md R224). -/
def execAslZpX (zz : Byte) (s : State) : Out := rmwMem .asl (.zpX zz) s

/-- ASL hhll,X, $1E (41_alu.md R224). -/
def execAslAbsX (hhll : Word) (s : State) : Out := rmwMem .asl (.absX hhll) s

/-- LSR zz, $46 (41_alu.md R225). -/
def execLsrZp (zz : Byte) (s : State) : Out := rmwMem .lsr (.zp zz) s

/-- LSR A, $4A (41_alu.md R225). -/
def execLsrA (s : State) : Out := rmwA .lsr s

/-- LSR hhll, $4E (41_alu.md R225). -/
def execLsrAbs (hhll : Word) (s : State) : Out := rmwMem .lsr (.abs hhll) s

/-- LSR zz,X, $56 (41_alu.md R225). -/
def execLsrZpX (zz : Byte) (s : State) : Out := rmwMem .lsr (.zpX zz) s

/-- LSR hhll,X, $5E (41_alu.md R225). -/
def execLsrAbsX (hhll : Word) (s : State) : Out := rmwMem .lsr (.absX hhll) s

/-- ROL zz, $26 (41_alu.md R226). -/
def execRolZp (zz : Byte) (s : State) : Out := rmwMem .rol (.zp zz) s

/-- ROL A, $2A (41_alu.md R226). -/
def execRolA (s : State) : Out := rmwA .rol s

/-- ROL hhll, $2E (41_alu.md R226). -/
def execRolAbs (hhll : Word) (s : State) : Out := rmwMem .rol (.abs hhll) s

/-- ROL zz,X, $36 (41_alu.md R226). -/
def execRolZpX (zz : Byte) (s : State) : Out := rmwMem .rol (.zpX zz) s

/-- ROL hhll,X, $3E (41_alu.md R226). -/
def execRolAbsX (hhll : Word) (s : State) : Out := rmwMem .rol (.absX hhll) s

/-- ROR zz, $66 (41_alu.md R227). -/
def execRorZp (zz : Byte) (s : State) : Out := rmwMem .ror (.zp zz) s

/-- ROR A, $6A (41_alu.md R227). -/
def execRorA (s : State) : Out := rmwA .ror s

/-- ROR hhll, $6E (41_alu.md R227). -/
def execRorAbs (hhll : Word) (s : State) : Out := rmwMem .ror (.abs hhll) s

/-- ROR zz,X, $76 (41_alu.md R227). -/
def execRorZpX (zz : Byte) (s : State) : Out := rmwMem .ror (.zpX zz) s

/-- ROR hhll,X, $7E (41_alu.md R227). -/
def execRorAbsX (hhll : Word) (s : State) : Out := rmwMem .ror (.absX hhll) s

/-- RMB0 zz, $07 (41_alu.md R228). -/
def execRmb0 (zz : Byte) (s : State) : Out := zpBit (fun b => clearBit b 0) zz s

/-- RMB1 zz, $17 (41_alu.md R228). -/
def execRmb1 (zz : Byte) (s : State) : Out := zpBit (fun b => clearBit b 1) zz s

/-- RMB2 zz, $27 (41_alu.md R228). -/
def execRmb2 (zz : Byte) (s : State) : Out := zpBit (fun b => clearBit b 2) zz s

/-- RMB3 zz, $37 (41_alu.md R228). -/
def execRmb3 (zz : Byte) (s : State) : Out := zpBit (fun b => clearBit b 3) zz s

/-- RMB4 zz, $47 (41_alu.md R228). -/
def execRmb4 (zz : Byte) (s : State) : Out := zpBit (fun b => clearBit b 4) zz s

/-- RMB5 zz, $57 (41_alu.md R228). -/
def execRmb5 (zz : Byte) (s : State) : Out := zpBit (fun b => clearBit b 5) zz s

/-- RMB6 zz, $67 (41_alu.md R228). -/
def execRmb6 (zz : Byte) (s : State) : Out := zpBit (fun b => clearBit b 6) zz s

/-- RMB7 zz, $77 (41_alu.md R228). -/
def execRmb7 (zz : Byte) (s : State) : Out := zpBit (fun b => clearBit b 7) zz s

/-- SMB0 zz, $87 (41_alu.md R229). -/
def execSmb0 (zz : Byte) (s : State) : Out := zpBit (fun b => setBit b 0) zz s

/-- SMB1 zz, $97 (41_alu.md R229). -/
def execSmb1 (zz : Byte) (s : State) : Out := zpBit (fun b => setBit b 1) zz s

/-- SMB2 zz, $A7 (41_alu.md R229). -/
def execSmb2 (zz : Byte) (s : State) : Out := zpBit (fun b => setBit b 2) zz s

/-- SMB3 zz, $B7 (41_alu.md R229). -/
def execSmb3 (zz : Byte) (s : State) : Out := zpBit (fun b => setBit b 3) zz s

/-- SMB4 zz, $C7 (41_alu.md R229). -/
def execSmb4 (zz : Byte) (s : State) : Out := zpBit (fun b => setBit b 4) zz s

/-- SMB5 zz, $D7 (41_alu.md R229). -/
def execSmb5 (zz : Byte) (s : State) : Out := zpBit (fun b => setBit b 5) zz s

/-- SMB6 zz, $E7 (41_alu.md R229). -/
def execSmb6 (zz : Byte) (s : State) : Out := zpBit (fun b => setBit b 6) zz s

/-- SMB7 zz, $F7 (41_alu.md R229). -/
def execSmb7 (zz : Byte) (s : State) : Out := zpBit (fun b => setBit b 7) zz s

end Sys2Proof.Machine
end

