-- ==== Sys2Proof/Machine/Block.lean ====
section
/-! DEFINITION. Block transfers (44_block_transfer.md). -/

namespace Sys2Proof.Machine

/-! ### Shared operations -/

/-- How one side's address steps (44_block_transfer.md R340). -/
inductive BlockStep where
  | inc | dec | fix | alt
deriving DecidableEq, Repr

/-- The address of iteration k (44_block_transfer.md R340). -/
def BlockStep.addr (t : BlockStep) (base : Word) (k : Nat) : Word :=
  match t with
  | .inc => base + BitVec.ofNat 16 k
  | .dec => base - BitVec.ofNat 16 k
  | .fix => base
  | .alt => base + BitVec.ofNat 16 (k % 2)

/-- n iterations from the k-th on, each one read then one write (44_block_transfer.md R340). -/
def blockLoop (st dt : BlockStep) (src dst : Word) : Nat → Nat → State → State
  | 0, _, s => s
  | n + 1, k, s =>
    let b := memRead (st.addr src k) s
    blockLoop st dt src dst n (k + 1) (memWrite (dt.addr dst k) b.1 b.2)

/-- The iteration count: a length of 0 is 65536 (44_block_transfer.md R340). -/
def blockCount (len : Word) : Nat := if len = 0 then 65536 else len.toNat

/-- A drawn byte stored at a stack address. -/
def residueAt (sp : Byte) (s : State) : State :=
  let r := s.draw Config.blockResidue
  memWrite (stackAddr sp) r.1 r.2

/-- The three stack bytes at S, S - 1 and S - 2 become draws (44_block_transfer.md R340; written through
slot 1 after the loop, DEDUCED, log 8). -/
def leaveResidue (s : State) : State :=
  residueAt (s.cpu.sp - 2) (residueAt (s.cpu.sp - 1) (residueAt s.cpu.sp s))

/-- A block transfer and its cost (44_block_transfer.md R340, R346). -/
def blockTransfer (st dt : BlockStep) (src dst len : Word) (s : State) : Out :=
  finish (s.params.btBase + s.params.btPerByte * blockCount len)
    (leaveResidue (blockLoop st dt src dst (blockCount len) 0 s))

/-- TIA's source side, by E3_VARIANT (44_block_transfer.md R344). -/
def tiaSource : E3Variant → BlockStep
  | .incAlt => .inc
  | .fixInc => .fix

/-- TIA's destination side, by E3_VARIANT (44_block_transfer.md R344). -/
def tiaTarget : E3Variant → BlockStep
  | .incAlt => .alt
  | .fixInc => .inc

/-! ### The instructions -/

/-- TII ssss,dddd,llll, $73 (44_block_transfer.md R341). -/
def execTii (src dst len : Word) (s : State) : Out := blockTransfer .inc .inc src dst len s

/-- TDD ssss,dddd,llll, $C3 (44_block_transfer.md R342). -/
def execTdd (src dst len : Word) (s : State) : Out := blockTransfer .dec .dec src dst len s

/-- TIN ssss,dddd,llll, $D3 (44_block_transfer.md R343). -/
def execTin (src dst len : Word) (s : State) : Out := blockTransfer .inc .fix src dst len s

/-- TIA ssss,dddd,llll, $E3 (44_block_transfer.md R344). -/
def execTia (src dst len : Word) (s : State) : Out :=
  blockTransfer (tiaSource s.params.e3Variant) (tiaTarget s.params.e3Variant) src dst len s

/-- TAI ssss,dddd,llll, $F3 (44_block_transfer.md R345). -/
def execTai (src dst len : Word) (s : State) : Out := blockTransfer .alt .inc src dst len s

end Sys2Proof.Machine
end

