-- ==== Sys2Proof/Machine/Control.lean ====
section
/-! DEFINITION. Branches, jumps, subroutines, returns and BRK (42_control.md). PC holds the address of the
next instruction when a meaning starts. -/

namespace Sys2Proof.Machine

/-! ### Shared operations -/

/-- A conditional branch (42_control.md R260-R268). -/
def branchIf (cond : Bool) (rr : Byte) (s : State) : Out :=
  if cond then finish s.params.cyc.branchTaken (s.setPc (relTarget s.cpu.pc rr))
  else finish s.params.cyc.branch s

/-- The page penalty of a taken BBRi or BBSi (42_control.md R270). -/
def pagePenalty (s : State) (target : Word) : Nat :=
  if hiByte s.cpu.pc = hiByte target then 0 else s.params.bbxPagePenalty

/-- BBRi and BBSi: branch if bit i of a zero-page byte is `want` (42_control.md R270, R271). -/
def bitBranch (i : Nat) (want : Bool) (zz rr : Byte) (s : State) : Out :=
  let m := zpRead zz s
  let target := relTarget m.2.cpu.pc rr
  if m.1.getLsbD i = want then
    finish (s.params.cyc.bitBranchTaken + pagePenalty m.2 target) (m.2.setPc target)
  else finish s.params.cyc.bitBranch m.2

/-- A subroutine call: push the address of the call's last byte, then jump (42_control.md R272, R274). -/
def callTo (cost : Nat) (target : Word) (s : State) : Out :=
  finish cost ((push16 (s.cpu.pc - 1) s).setPc target)

/-- A jump through a pointer, its high byte at the next address (42_control.md R273). -/
def jumpThrough (p : Word) (s : State) : Out :=
  let r := read16 p s
  finish s.params.cyc.jmpInd (r.2.setPc r.1)

/-! ### The instructions -/

/-- BPL label, $10 (42_control.md R261). -/
def execBpl (rr : Byte) (s : State) : Out := branchIf (!s.cpu.p.n) rr s

/-- BMI label, $30 (42_control.md R262). -/
def execBmi (rr : Byte) (s : State) : Out := branchIf s.cpu.p.n rr s

/-- BVC label, $50 (42_control.md R263). -/
def execBvc (rr : Byte) (s : State) : Out := branchIf (!s.cpu.p.v) rr s

/-- BVS label, $70 (42_control.md R264). -/
def execBvs (rr : Byte) (s : State) : Out := branchIf s.cpu.p.v rr s

/-- BCC label, $90 (42_control.md R265). -/
def execBcc (rr : Byte) (s : State) : Out := branchIf (!s.cpu.p.c) rr s

/-- BCS label, $B0 (42_control.md R266). -/
def execBcs (rr : Byte) (s : State) : Out := branchIf s.cpu.p.c rr s

/-- BNE label, $D0 (42_control.md R267). -/
def execBne (rr : Byte) (s : State) : Out := branchIf (!s.cpu.p.z) rr s

/-- BEQ label, $F0 (42_control.md R268). -/
def execBeq (rr : Byte) (s : State) : Out := branchIf s.cpu.p.z rr s

/-- BRA label, $80 (42_control.md R269). -/
def execBra (rr : Byte) (s : State) : Out :=
  finish s.params.cyc.bra (s.setPc (relTarget s.cpu.pc rr))

/-- BBR0 zz,label, $0F (42_control.md R270). -/
def execBbr0 (zz rr : Byte) (s : State) : Out := bitBranch 0 false zz rr s

/-- BBR1 zz,label, $1F (42_control.md R270). -/
def execBbr1 (zz rr : Byte) (s : State) : Out := bitBranch 1 false zz rr s

/-- BBR2 zz,label, $2F (42_control.md R270). -/
def execBbr2 (zz rr : Byte) (s : State) : Out := bitBranch 2 false zz rr s

/-- BBR3 zz,label, $3F (42_control.md R270). -/
def execBbr3 (zz rr : Byte) (s : State) : Out := bitBranch 3 false zz rr s

/-- BBR4 zz,label, $4F (42_control.md R270). -/
def execBbr4 (zz rr : Byte) (s : State) : Out := bitBranch 4 false zz rr s

/-- BBR5 zz,label, $5F (42_control.md R270). -/
def execBbr5 (zz rr : Byte) (s : State) : Out := bitBranch 5 false zz rr s

/-- BBR6 zz,label, $6F (42_control.md R270). -/
def execBbr6 (zz rr : Byte) (s : State) : Out := bitBranch 6 false zz rr s

/-- BBR7 zz,label, $7F (42_control.md R270). -/
def execBbr7 (zz rr : Byte) (s : State) : Out := bitBranch 7 false zz rr s

/-- BBS0 zz,label, $8F (42_control.md R271). -/
def execBbs0 (zz rr : Byte) (s : State) : Out := bitBranch 0 true zz rr s

/-- BBS1 zz,label, $9F (42_control.md R271). -/
def execBbs1 (zz rr : Byte) (s : State) : Out := bitBranch 1 true zz rr s

/-- BBS2 zz,label, $AF (42_control.md R271). -/
def execBbs2 (zz rr : Byte) (s : State) : Out := bitBranch 2 true zz rr s

/-- BBS3 zz,label, $BF (42_control.md R271). -/
def execBbs3 (zz rr : Byte) (s : State) : Out := bitBranch 3 true zz rr s

/-- BBS4 zz,label, $CF (42_control.md R271). -/
def execBbs4 (zz rr : Byte) (s : State) : Out := bitBranch 4 true zz rr s

/-- BBS5 zz,label, $DF (42_control.md R271). -/
def execBbs5 (zz rr : Byte) (s : State) : Out := bitBranch 5 true zz rr s

/-- BBS6 zz,label, $EF (42_control.md R271). -/
def execBbs6 (zz rr : Byte) (s : State) : Out := bitBranch 6 true zz rr s

/-- BBS7 zz,label, $FF (42_control.md R271). -/
def execBbs7 (zz rr : Byte) (s : State) : Out := bitBranch 7 true zz rr s

/-- BSR label, $44 (42_control.md R272). -/
def execBsr (rr : Byte) (s : State) : Out := callTo s.params.cyc.bsr (relTarget s.cpu.pc rr) s

/-- JMP hhll, $4C (42_control.md R273). -/
def execJmpAbs (hhll : Word) (s : State) : Out := finish s.params.cyc.jmpAbs (s.setPc hhll)

/-- JMP (hhll), $6C (42_control.md R273). -/
def execJmpInd (hhll : Word) (s : State) : Out := jumpThrough hhll s

/-- JMP (hhll,X), $7C (42_control.md R273). -/
def execJmpIndX (hhll : Word) (s : State) : Out := jumpThrough (hhll + s.cpu.x.zeroExtend 16) s

/-- JSR hhll, $20 (42_control.md R274). -/
def execJsr (hhll : Word) (s : State) : Out := callTo s.params.cyc.jsr hhll s

/-- RTS, $60 (42_control.md R275). -/
def execRts (s : State) : Out := finish s.params.cyc.jsr ((pull16 s).2.setPc ((pull16 s).1 + 1))

/-- RTI, $40 (42_control.md R276). -/
def execRti (s : State) : Out := finish s.params.cyc.jsr (returnFromInterrupt s)

/-- BRK #sig, $00: the signature byte is fetched and ignored (42_control.md R277). -/
def execBrk (_sig : Byte) (s : State) : Out := finish s.params.cyc.brk (enterVector .brk s)

end Sys2Proof.Machine
end

