-- ==== Sys2Proof/Machine/LoadStore.lean ====
section
/-! DEFINITION. Loads, stores, register transfers, swaps, clears and the stack instructions
(40_load_store.md). -/

namespace Sys2Proof.Machine

/-! ### Shared operations -/

/-- A load: the operand into a register, N and Z from it (40_load_store.md R161-R163). -/
def loadWith (put : State → Byte → State) (o : Operand) (s : State) : Out :=
  let r := readOperand o s
  finish (o.cost s.params.cyc) ((put r.2 r.1).setNZ r.1)

/-- A store: no read, no flag (40_load_store.md R164-R167). -/
def storeValue (m : Addr) (v : Byte) (s : State) : Out :=
  finish (m.cost s.params.cyc) (storeAt m v s)

/-- A transfer: a value into a register, N and Z from it (40_load_store.md R168-R172). -/
def transfer (put : State → Byte → State) (v : Byte) (s : State) : Out :=
  finish s.params.cyc.implied ((put s v).setNZ v)

/-- A push instruction: no flag (40_load_store.md R180-R183). -/
def pushValue (v : Byte) (s : State) : Out := finish s.params.cyc.push (push v s)

/-- A pull into a register, N and Z from it (40_load_store.md R184, R186, R187). -/
def pullWith (put : State → Byte → State) (s : State) : Out :=
  let r := pull s
  finish s.params.cyc.pull ((put r.2 r.1).setNZ r.1)

/-! ### The instructions -/

/-- LDA (zz,X), $A1 (40_load_store.md R161). -/
def execLdaIndX (zz : Byte) (s : State) : Out := loadWith State.setA (.mem (.indX zz)) s

/-- LDA zz, $A5 (40_load_store.md R161). -/
def execLdaZp (zz : Byte) (s : State) : Out := loadWith State.setA (.mem (.zp zz)) s

/-- LDA #nn, $A9 (40_load_store.md R161). -/
def execLdaImm (nn : Byte) (s : State) : Out := loadWith State.setA (.imm nn) s

/-- LDA hhll, $AD (40_load_store.md R161). -/
def execLdaAbs (hhll : Word) (s : State) : Out := loadWith State.setA (.mem (.abs hhll)) s

/-- LDA (zz),Y, $B1 (40_load_store.md R161). -/
def execLdaIndY (zz : Byte) (s : State) : Out := loadWith State.setA (.mem (.indY zz)) s

/-- LDA (zz), $B2 (40_load_store.md R161). -/
def execLdaInd (zz : Byte) (s : State) : Out := loadWith State.setA (.mem (.ind zz)) s

/-- LDA zz,X, $B5 (40_load_store.md R161). -/
def execLdaZpX (zz : Byte) (s : State) : Out := loadWith State.setA (.mem (.zpX zz)) s

/-- LDA hhll,Y, $B9 (40_load_store.md R161). -/
def execLdaAbsY (hhll : Word) (s : State) : Out := loadWith State.setA (.mem (.absY hhll)) s

/-- LDA hhll,X, $BD (40_load_store.md R161). -/
def execLdaAbsX (hhll : Word) (s : State) : Out := loadWith State.setA (.mem (.absX hhll)) s

/-- LDX #nn, $A2 (40_load_store.md R162). -/
def execLdxImm (nn : Byte) (s : State) : Out := loadWith State.setX (.imm nn) s

/-- LDX zz, $A6 (40_load_store.md R162). -/
def execLdxZp (zz : Byte) (s : State) : Out := loadWith State.setX (.mem (.zp zz)) s

/-- LDX hhll, $AE (40_load_store.md R162). -/
def execLdxAbs (hhll : Word) (s : State) : Out := loadWith State.setX (.mem (.abs hhll)) s

/-- LDX zz,Y, $B6 (40_load_store.md R162). -/
def execLdxZpY (zz : Byte) (s : State) : Out := loadWith State.setX (.mem (.zpY zz)) s

/-- LDX hhll,Y, $BE (40_load_store.md R162). -/
def execLdxAbsY (hhll : Word) (s : State) : Out := loadWith State.setX (.mem (.absY hhll)) s

/-- LDY #nn, $A0 (40_load_store.md R163). -/
def execLdyImm (nn : Byte) (s : State) : Out := loadWith State.setY (.imm nn) s

/-- LDY zz, $A4 (40_load_store.md R163). -/
def execLdyZp (zz : Byte) (s : State) : Out := loadWith State.setY (.mem (.zp zz)) s

/-- LDY hhll, $AC (40_load_store.md R163). -/
def execLdyAbs (hhll : Word) (s : State) : Out := loadWith State.setY (.mem (.abs hhll)) s

/-- LDY zz,X, $B4 (40_load_store.md R163). -/
def execLdyZpX (zz : Byte) (s : State) : Out := loadWith State.setY (.mem (.zpX zz)) s

/-- LDY hhll,X, $BC (40_load_store.md R163). -/
def execLdyAbsX (hhll : Word) (s : State) : Out := loadWith State.setY (.mem (.absX hhll)) s

/-- STA (zz,X), $81 (40_load_store.md R164). -/
def execStaIndX (zz : Byte) (s : State) : Out := storeValue (.indX zz) s.cpu.a s

/-- STA zz, $85 (40_load_store.md R164). -/
def execStaZp (zz : Byte) (s : State) : Out := storeValue (.zp zz) s.cpu.a s

/-- STA hhll, $8D (40_load_store.md R164). -/
def execStaAbs (hhll : Word) (s : State) : Out := storeValue (.abs hhll) s.cpu.a s

/-- STA (zz),Y, $91 (40_load_store.md R164). -/
def execStaIndY (zz : Byte) (s : State) : Out := storeValue (.indY zz) s.cpu.a s

/-- STA (zz), $92 (40_load_store.md R164). -/
def execStaInd (zz : Byte) (s : State) : Out := storeValue (.ind zz) s.cpu.a s

/-- STA zz,X, $95 (40_load_store.md R164). -/
def execStaZpX (zz : Byte) (s : State) : Out := storeValue (.zpX zz) s.cpu.a s

/-- STA hhll,Y, $99 (40_load_store.md R164). -/
def execStaAbsY (hhll : Word) (s : State) : Out := storeValue (.absY hhll) s.cpu.a s

/-- STA hhll,X, $9D (40_load_store.md R164). -/
def execStaAbsX (hhll : Word) (s : State) : Out := storeValue (.absX hhll) s.cpu.a s

/-- STX zz, $86 (40_load_store.md R165). -/
def execStxZp (zz : Byte) (s : State) : Out := storeValue (.zp zz) s.cpu.x s

/-- STX hhll, $8E (40_load_store.md R165). -/
def execStxAbs (hhll : Word) (s : State) : Out := storeValue (.abs hhll) s.cpu.x s

/-- STX zz,Y, $96 (40_load_store.md R165). -/
def execStxZpY (zz : Byte) (s : State) : Out := storeValue (.zpY zz) s.cpu.x s

/-- STY zz, $84 (40_load_store.md R166). -/
def execStyZp (zz : Byte) (s : State) : Out := storeValue (.zp zz) s.cpu.y s

/-- STY hhll, $8C (40_load_store.md R166). -/
def execStyAbs (hhll : Word) (s : State) : Out := storeValue (.abs hhll) s.cpu.y s

/-- STY zz,X, $94 (40_load_store.md R166). -/
def execStyZpX (zz : Byte) (s : State) : Out := storeValue (.zpX zz) s.cpu.y s

/-- STZ zz, $64 (40_load_store.md R167). -/
def execStzZp (zz : Byte) (s : State) : Out := storeValue (.zp zz) 0x00 s

/-- STZ zz,X, $74 (40_load_store.md R167). -/
def execStzZpX (zz : Byte) (s : State) : Out := storeValue (.zpX zz) 0x00 s

/-- STZ hhll, $9C (40_load_store.md R167). -/
def execStzAbs (hhll : Word) (s : State) : Out := storeValue (.abs hhll) 0x00 s

/-- STZ hhll,X, $9E (40_load_store.md R167). -/
def execStzAbsX (hhll : Word) (s : State) : Out := storeValue (.absX hhll) 0x00 s

/-- TAX, $AA (40_load_store.md R168). -/
def execTax (s : State) : Out := transfer State.setX s.cpu.a s

/-- TAY, $A8 (40_load_store.md R169). -/
def execTay (s : State) : Out := transfer State.setY s.cpu.a s

/-- TXA, $8A (40_load_store.md R170). -/
def execTxa (s : State) : Out := transfer State.setA s.cpu.x s

/-- TYA, $98 (40_load_store.md R171). -/
def execTya (s : State) : Out := transfer State.setA s.cpu.y s

/-- TSX, $BA (40_load_store.md R172). -/
def execTsx (s : State) : Out := transfer State.setX s.cpu.sp s

/-- TXS, $9A (40_load_store.md R173). -/
def execTxs (s : State) : Out := finish s.params.cyc.implied (s.setSp s.cpu.x)

/-- SAX, $22 (40_load_store.md R174). -/
def execSax (s : State) : Out := finish s.params.cyc.swap ((s.setA s.cpu.x).setX s.cpu.a)

/-- SAY, $42 (40_load_store.md R175). -/
def execSay (s : State) : Out := finish s.params.cyc.swap ((s.setA s.cpu.y).setY s.cpu.a)

/-- SXY, $02 (40_load_store.md R176). -/
def execSxy (s : State) : Out := finish s.params.cyc.swap ((s.setX s.cpu.y).setY s.cpu.x)

/-- CLA, $62 (40_load_store.md R177). -/
def execCla (s : State) : Out := finish s.params.cyc.implied (s.setA 0x00)

/-- CLX, $82 (40_load_store.md R178). -/
def execClx (s : State) : Out := finish s.params.cyc.implied (s.setX 0x00)

/-- CLY, $C2 (40_load_store.md R179). -/
def execCly (s : State) : Out := finish s.params.cyc.implied (s.setY 0x00)

/-- PHA, $48 (40_load_store.md R180). -/
def execPha (s : State) : Out := pushValue s.cpu.a s

/-- PHP, $08 (40_load_store.md R181). -/
def execPhp (s : State) : Out := pushValue (s.cpu.p.toByte true) s

/-- PHX, $DA (40_load_store.md R182). -/
def execPhx (s : State) : Out := pushValue s.cpu.x s

/-- PHY, $5A (40_load_store.md R183). -/
def execPhy (s : State) : Out := pushValue s.cpu.y s

/-- PLA, $68 (40_load_store.md R184). -/
def execPla (s : State) : Out := pullWith State.setA s

/-- PLP, $28 (40_load_store.md R185). -/
def execPlp (s : State) : Out :=
  finish s.params.cyc.pull ((pull s).2.setP (Flags.ofByte (pull s).1))

/-- PLX, $FA (40_load_store.md R186). -/
def execPlx (s : State) : Out := pullWith State.setX s

/-- PLY, $7A (40_load_store.md R187). -/
def execPly (s : State) : Out := pullWith State.setY s

end Sys2Proof.Machine
end

