-- ==== Sys2Proof/Machine/System.lean ====
section
/-! DEFINITION. Flag, speed, mapping, VDC-store, no-op, wait and stop instructions (43_system.md). -/

namespace Sys2Proof.Machine

/-! ### Shared operations -/

/-- A flag instruction (43_system.md R301-R307). -/
def setFlags (f : Flags) (s : State) : Out := finish s.params.cyc.implied (s.setP f)

/-- CSL and CSH (43_system.md R310, R311). -/
def setSpeed (v : Speed) (s : State) : Out :=
  finish s.params.cyc.swap { s with cpu := { s.cpu with speed := v } }

/-- TAM: the slot of the lowest 1 bit, none for 0 (43_system.md R320). -/
def transferToMpr (nn : Byte) (s : State) : State :=
  match lowestSetBit nn with
  | some i => { s with mpr := s.mpr.set i s.cpu.a }
  | none => s

/-- TMA: the slot of the lowest 1 bit, a draw for 0 (43_system.md R321). -/
def transferFromMpr (nn : Byte) (s : State) : State :=
  match lowestSetBit nn with
  | some i => s.setA s.mpr[i]
  | none => (s.draw Config.tmaZero).2.setA (s.draw Config.tmaZero).1

/-- ST0, ST1 and ST2: a VDC port written directly, whatever the slots map (43_system.md R322-R324). An
alias window over offsets 0, 2 or 3 does not catch the write, although 00_scope.md R13 names PhysWrite
for it, which R79 would decode by the window first (DEDUCED, log 27). -/
def vdcStore (q : HwPort) (nn : Byte) (s : State) : Out :=
  finish s.params.cyc.vdcStore (s.portWrite nn q)

/-- WAI and STP (43_system.md R330, R331). -/
def suspend (r : RunState) (s : State) : Out :=
  finish s.params.cyc.wait { s with cpu := { s.cpu with runState := r } }

/-! ### The instructions -/

/-- CLC, $18 (43_system.md R301). -/
def execClc (s : State) : Out := setFlags { s.cpu.p with c := false } s

/-- SEC, $38 (43_system.md R302). -/
def execSec (s : State) : Out := setFlags { s.cpu.p with c := true } s

/-- CLI, $58 (43_system.md R303). -/
def execCli (s : State) : Out := setFlags { s.cpu.p with i := false } s

/-- SEI, $78 (43_system.md R304). -/
def execSei (s : State) : Out := setFlags { s.cpu.p with i := true } s

/-- CLD, $D8 (43_system.md R305). -/
def execCld (s : State) : Out := setFlags { s.cpu.p with d := false } s

/-- SED, $F8 (43_system.md R306). -/
def execSed (s : State) : Out := setFlags { s.cpu.p with d := true } s

/-- CLV, $B8 (43_system.md R307). -/
def execClv (s : State) : Out := setFlags { s.cpu.p with v := false } s

/-- SET, $F4 (43_system.md R308). -/
def execSet (s : State) : Out := .next (s.endWith true s.params.cyc.implied)

/-- CSL, $54 (43_system.md R310). -/
def execCsl (s : State) : Out := setSpeed .low s

/-- CSH, $D4 (43_system.md R311). -/
def execCsh (s : State) : Out := setSpeed .high s

/-- TAM #nn, $53 (43_system.md R320). -/
def execTam (nn : Byte) (s : State) : Out := finish s.params.cyc.tam (transferToMpr nn s)

/-- TMA #nn, $43 (43_system.md R321). -/
def execTma (nn : Byte) (s : State) : Out := finish s.params.cyc.tma (transferFromMpr nn s)

/-- ST0 #nn, $03 (43_system.md R322). -/
def execSt0 (nn : Byte) (s : State) : Out := vdcStore .vdcStatus nn s

/-- ST1 #nn, $13 (43_system.md R323). -/
def execSt1 (nn : Byte) (s : State) : Out := vdcStore .vdcLow nn s

/-- ST2 #nn, $23 (43_system.md R324). -/
def execSt2 (nn : Byte) (s : State) : Out := vdcStore .vdcHigh nn s

/-- NOP, $EA (43_system.md R325). -/
def execNop (s : State) : Out := finish s.params.cyc.implied s

/-- WAI, $CB (43_system.md R330). -/
def execWai (s : State) : Out := suspend .waiting s

/-- STP, $DB (43_system.md R331). -/
def execStp (s : State) : Out := suspend .stopped s

/-- An undefined opcode: no effect (43_system.md R326). -/
def execUndefined (_op : Byte) (s : State) : Out := finish s.params.cyc.undefined s

end Sys2Proof.Machine
end

