-- ==== Sys2Proof/Syntax.lean ====
section
/-! DEFINITION. The instructions: one constructor for each defined row of the opcode table, named by its
mnemonic and addressing mode, with its operand bytes as fields; and one for the 20 undefined opcodes
(30_encoding.md R130-R133, R158, R159; log 21). Fields: `nn` an immediate, `zz` a zero-page offset,
`hhll` a logical address, `rr` a signed displacement, `sig` BRK's signature byte, `src`, `dst` and `len`
a block transfer's words. -/

namespace Sys2Proof

/-- The instructions. -/
inductive Instr where
  /-- BRK #sig, $00, 42_control.md R277 -/
  | brk (sig : Byte)
  /-- ORA (zz,X), $01, 41_alu.md R209 -/
  | oraIndX (zz : Byte)
  /-- SXY, $02, 40_load_store.md R176 -/
  | sxy
  /-- ST0 #nn, $03, 43_system.md R322 -/
  | st0 (nn : Byte)
  /-- TSB zz, $04, 41_alu.md R216 -/
  | tsbZp (zz : Byte)
  /-- ORA zz, $05, 41_alu.md R209 -/
  | oraZp (zz : Byte)
  /-- ASL zz, $06, 41_alu.md R224 -/
  | aslZp (zz : Byte)
  /-- RMB0 zz, $07, 41_alu.md R228 -/
  | rmb0 (zz : Byte)
  /-- PHP, $08, 40_load_store.md R181 -/
  | php
  /-- ORA #nn, $09, 41_alu.md R209 -/
  | oraImm (nn : Byte)
  /-- ASL A, $0A, 41_alu.md R224 -/
  | aslA
  /-- TSB hhll, $0C, 41_alu.md R216 -/
  | tsbAbs (hhll : Word)
  /-- ORA hhll, $0D, 41_alu.md R209 -/
  | oraAbs (hhll : Word)
  /-- ASL hhll, $0E, 41_alu.md R224 -/
  | aslAbs (hhll : Word)
  /-- BBR0 zz,label, $0F, 42_control.md R270 -/
  | bbr0 (zz rr : Byte)
  /-- BPL label, $10, 42_control.md R261 -/
  | bpl (rr : Byte)
  /-- ORA (zz),Y, $11, 41_alu.md R209 -/
  | oraIndY (zz : Byte)
  /-- ORA (zz), $12, 41_alu.md R209 -/
  | oraInd (zz : Byte)
  /-- ST1 #nn, $13, 43_system.md R323 -/
  | st1 (nn : Byte)
  /-- TRB zz, $14, 41_alu.md R217 -/
  | trbZp (zz : Byte)
  /-- ORA zz,X, $15, 41_alu.md R209 -/
  | oraZpX (zz : Byte)
  /-- ASL zz,X, $16, 41_alu.md R224 -/
  | aslZpX (zz : Byte)
  /-- RMB1 zz, $17, 41_alu.md R228 -/
  | rmb1 (zz : Byte)
  /-- CLC, $18, 43_system.md R301 -/
  | clc
  /-- ORA hhll,Y, $19, 41_alu.md R209 -/
  | oraAbsY (hhll : Word)
  /-- INC A, $1A, 41_alu.md R218 -/
  | incA
  /-- TRB hhll, $1C, 41_alu.md R217 -/
  | trbAbs (hhll : Word)
  /-- ORA hhll,X, $1D, 41_alu.md R209 -/
  | oraAbsX (hhll : Word)
  /-- ASL hhll,X, $1E, 41_alu.md R224 -/
  | aslAbsX (hhll : Word)
  /-- BBR1 zz,label, $1F, 42_control.md R270 -/
  | bbr1 (zz rr : Byte)
  /-- JSR hhll, $20, 42_control.md R274 -/
  | jsr (hhll : Word)
  /-- AND (zz,X), $21, 41_alu.md R208 -/
  | andIndX (zz : Byte)
  /-- SAX, $22, 40_load_store.md R174 -/
  | sax
  /-- ST2 #nn, $23, 43_system.md R324 -/
  | st2 (nn : Byte)
  /-- BIT zz, $24, 41_alu.md R214 -/
  | bitZp (zz : Byte)
  /-- AND zz, $25, 41_alu.md R208 -/
  | andZp (zz : Byte)
  /-- ROL zz, $26, 41_alu.md R226 -/
  | rolZp (zz : Byte)
  /-- RMB2 zz, $27, 41_alu.md R228 -/
  | rmb2 (zz : Byte)
  /-- PLP, $28, 40_load_store.md R185 -/
  | plp
  /-- AND #nn, $29, 41_alu.md R208 -/
  | andImm (nn : Byte)
  /-- ROL A, $2A, 41_alu.md R226 -/
  | rolA
  /-- BIT hhll, $2C, 41_alu.md R214 -/
  | bitAbs (hhll : Word)
  /-- AND hhll, $2D, 41_alu.md R208 -/
  | andAbs (hhll : Word)
  /-- ROL hhll, $2E, 41_alu.md R226 -/
  | rolAbs (hhll : Word)
  /-- BBR2 zz,label, $2F, 42_control.md R270 -/
  | bbr2 (zz rr : Byte)
  /-- BMI label, $30, 42_control.md R262 -/
  | bmi (rr : Byte)
  /-- AND (zz),Y, $31, 41_alu.md R208 -/
  | andIndY (zz : Byte)
  /-- AND (zz), $32, 41_alu.md R208 -/
  | andInd (zz : Byte)
  /-- BIT zz,X, $34, 41_alu.md R214 -/
  | bitZpX (zz : Byte)
  /-- AND zz,X, $35, 41_alu.md R208 -/
  | andZpX (zz : Byte)
  /-- ROL zz,X, $36, 41_alu.md R226 -/
  | rolZpX (zz : Byte)
  /-- RMB3 zz, $37, 41_alu.md R228 -/
  | rmb3 (zz : Byte)
  /-- SEC, $38, 43_system.md R302 -/
  | sec
  /-- AND hhll,Y, $39, 41_alu.md R208 -/
  | andAbsY (hhll : Word)
  /-- DEC A, $3A, 41_alu.md R219 -/
  | decA
  /-- BIT hhll,X, $3C, 41_alu.md R214 -/
  | bitAbsX (hhll : Word)
  /-- AND hhll,X, $3D, 41_alu.md R208 -/
  | andAbsX (hhll : Word)
  /-- ROL hhll,X, $3E, 41_alu.md R226 -/
  | rolAbsX (hhll : Word)
  /-- BBR3 zz,label, $3F, 42_control.md R270 -/
  | bbr3 (zz rr : Byte)
  /-- RTI, $40, 42_control.md R276 -/
  | rti
  /-- EOR (zz,X), $41, 41_alu.md R210 -/
  | eorIndX (zz : Byte)
  /-- SAY, $42, 40_load_store.md R175 -/
  | say
  /-- TMA #nn, $43, 43_system.md R321 -/
  | tma (nn : Byte)
  /-- BSR label, $44, 42_control.md R272 -/
  | bsr (rr : Byte)
  /-- EOR zz, $45, 41_alu.md R210 -/
  | eorZp (zz : Byte)
  /-- LSR zz, $46, 41_alu.md R225 -/
  | lsrZp (zz : Byte)
  /-- RMB4 zz, $47, 41_alu.md R228 -/
  | rmb4 (zz : Byte)
  /-- PHA, $48, 40_load_store.md R180 -/
  | pha
  /-- EOR #nn, $49, 41_alu.md R210 -/
  | eorImm (nn : Byte)
  /-- LSR A, $4A, 41_alu.md R225 -/
  | lsrA
  /-- JMP hhll, $4C, 42_control.md R273 -/
  | jmpAbs (hhll : Word)
  /-- EOR hhll, $4D, 41_alu.md R210 -/
  | eorAbs (hhll : Word)
  /-- LSR hhll, $4E, 41_alu.md R225 -/
  | lsrAbs (hhll : Word)
  /-- BBR4 zz,label, $4F, 42_control.md R270 -/
  | bbr4 (zz rr : Byte)
  /-- BVC label, $50, 42_control.md R263 -/
  | bvc (rr : Byte)
  /-- EOR (zz),Y, $51, 41_alu.md R210 -/
  | eorIndY (zz : Byte)
  /-- EOR (zz), $52, 41_alu.md R210 -/
  | eorInd (zz : Byte)
  /-- TAM #nn, $53, 43_system.md R320 -/
  | tam (nn : Byte)
  /-- CSL, $54, 43_system.md R310 -/
  | csl
  /-- EOR zz,X, $55, 41_alu.md R210 -/
  | eorZpX (zz : Byte)
  /-- LSR zz,X, $56, 41_alu.md R225 -/
  | lsrZpX (zz : Byte)
  /-- RMB5 zz, $57, 41_alu.md R228 -/
  | rmb5 (zz : Byte)
  /-- CLI, $58, 43_system.md R303 -/
  | cli
  /-- EOR hhll,Y, $59, 41_alu.md R210 -/
  | eorAbsY (hhll : Word)
  /-- PHY, $5A, 40_load_store.md R183 -/
  | phy
  /-- EOR hhll,X, $5D, 41_alu.md R210 -/
  | eorAbsX (hhll : Word)
  /-- LSR hhll,X, $5E, 41_alu.md R225 -/
  | lsrAbsX (hhll : Word)
  /-- BBR5 zz,label, $5F, 42_control.md R270 -/
  | bbr5 (zz rr : Byte)
  /-- RTS, $60, 42_control.md R275 -/
  | rts
  /-- ADC (zz,X), $61, 41_alu.md R206 -/
  | adcIndX (zz : Byte)
  /-- CLA, $62, 40_load_store.md R177 -/
  | cla
  /-- STZ zz, $64, 40_load_store.md R167 -/
  | stzZp (zz : Byte)
  /-- ADC zz, $65, 41_alu.md R206 -/
  | adcZp (zz : Byte)
  /-- ROR zz, $66, 41_alu.md R227 -/
  | rorZp (zz : Byte)
  /-- RMB6 zz, $67, 41_alu.md R228 -/
  | rmb6 (zz : Byte)
  /-- PLA, $68, 40_load_store.md R184 -/
  | pla
  /-- ADC #nn, $69, 41_alu.md R206 -/
  | adcImm (nn : Byte)
  /-- ROR A, $6A, 41_alu.md R227 -/
  | rorA
  /-- JMP (hhll), $6C, 42_control.md R273 -/
  | jmpInd (hhll : Word)
  /-- ADC hhll, $6D, 41_alu.md R206 -/
  | adcAbs (hhll : Word)
  /-- ROR hhll, $6E, 41_alu.md R227 -/
  | rorAbs (hhll : Word)
  /-- BBR6 zz,label, $6F, 42_control.md R270 -/
  | bbr6 (zz rr : Byte)
  /-- BVS label, $70, 42_control.md R264 -/
  | bvs (rr : Byte)
  /-- ADC (zz),Y, $71, 41_alu.md R206 -/
  | adcIndY (zz : Byte)
  /-- ADC (zz), $72, 41_alu.md R206 -/
  | adcInd (zz : Byte)
  /-- TII ssss,dddd,llll, $73, 44_block_transfer.md R341 -/
  | tii (src dst len : Word)
  /-- STZ zz,X, $74, 40_load_store.md R167 -/
  | stzZpX (zz : Byte)
  /-- ADC zz,X, $75, 41_alu.md R206 -/
  | adcZpX (zz : Byte)
  /-- ROR zz,X, $76, 41_alu.md R227 -/
  | rorZpX (zz : Byte)
  /-- RMB7 zz, $77, 41_alu.md R228 -/
  | rmb7 (zz : Byte)
  /-- SEI, $78, 43_system.md R304 -/
  | sei
  /-- ADC hhll,Y, $79, 41_alu.md R206 -/
  | adcAbsY (hhll : Word)
  /-- PLY, $7A, 40_load_store.md R187 -/
  | ply
  /-- JMP (hhll,X), $7C, 42_control.md R273 -/
  | jmpIndX (hhll : Word)
  /-- ADC hhll,X, $7D, 41_alu.md R206 -/
  | adcAbsX (hhll : Word)
  /-- ROR hhll,X, $7E, 41_alu.md R227 -/
  | rorAbsX (hhll : Word)
  /-- BBR7 zz,label, $7F, 42_control.md R270 -/
  | bbr7 (zz rr : Byte)
  /-- BRA label, $80, 42_control.md R269 -/
  | bra (rr : Byte)
  /-- STA (zz,X), $81, 40_load_store.md R164 -/
  | staIndX (zz : Byte)
  /-- CLX, $82, 40_load_store.md R178 -/
  | clx
  /-- TST #nn,zz, $83, 41_alu.md R215 -/
  | tstImmZp (nn zz : Byte)
  /-- STY zz, $84, 40_load_store.md R166 -/
  | styZp (zz : Byte)
  /-- STA zz, $85, 40_load_store.md R164 -/
  | staZp (zz : Byte)
  /-- STX zz, $86, 40_load_store.md R165 -/
  | stxZp (zz : Byte)
  /-- SMB0 zz, $87, 41_alu.md R229 -/
  | smb0 (zz : Byte)
  /-- DEY, $88, 41_alu.md R223 -/
  | dey
  /-- BIT #nn, $89, 41_alu.md R214 -/
  | bitImm (nn : Byte)
  /-- TXA, $8A, 40_load_store.md R170 -/
  | txa
  /-- STY hhll, $8C, 40_load_store.md R166 -/
  | styAbs (hhll : Word)
  /-- STA hhll, $8D, 40_load_store.md R164 -/
  | staAbs (hhll : Word)
  /-- STX hhll, $8E, 40_load_store.md R165 -/
  | stxAbs (hhll : Word)
  /-- BBS0 zz,label, $8F, 42_control.md R271 -/
  | bbs0 (zz rr : Byte)
  /-- BCC label, $90, 42_control.md R265 -/
  | bcc (rr : Byte)
  /-- STA (zz),Y, $91, 40_load_store.md R164 -/
  | staIndY (zz : Byte)
  /-- STA (zz), $92, 40_load_store.md R164 -/
  | staInd (zz : Byte)
  /-- TST #nn,hhll, $93, 41_alu.md R215 -/
  | tstImmAbs (nn : Byte) (hhll : Word)
  /-- STY zz,X, $94, 40_load_store.md R166 -/
  | styZpX (zz : Byte)
  /-- STA zz,X, $95, 40_load_store.md R164 -/
  | staZpX (zz : Byte)
  /-- STX zz,Y, $96, 40_load_store.md R165 -/
  | stxZpY (zz : Byte)
  /-- SMB1 zz, $97, 41_alu.md R229 -/
  | smb1 (zz : Byte)
  /-- TYA, $98, 40_load_store.md R171 -/
  | tya
  /-- STA hhll,Y, $99, 40_load_store.md R164 -/
  | staAbsY (hhll : Word)
  /-- TXS, $9A, 40_load_store.md R173 -/
  | txs
  /-- STZ hhll, $9C, 40_load_store.md R167 -/
  | stzAbs (hhll : Word)
  /-- STA hhll,X, $9D, 40_load_store.md R164 -/
  | staAbsX (hhll : Word)
  /-- STZ hhll,X, $9E, 40_load_store.md R167 -/
  | stzAbsX (hhll : Word)
  /-- BBS1 zz,label, $9F, 42_control.md R271 -/
  | bbs1 (zz rr : Byte)
  /-- LDY #nn, $A0, 40_load_store.md R163 -/
  | ldyImm (nn : Byte)
  /-- LDA (zz,X), $A1, 40_load_store.md R161 -/
  | ldaIndX (zz : Byte)
  /-- LDX #nn, $A2, 40_load_store.md R162 -/
  | ldxImm (nn : Byte)
  /-- TST #nn,zz,X, $A3, 41_alu.md R215 -/
  | tstImmZpX (nn zz : Byte)
  /-- LDY zz, $A4, 40_load_store.md R163 -/
  | ldyZp (zz : Byte)
  /-- LDA zz, $A5, 40_load_store.md R161 -/
  | ldaZp (zz : Byte)
  /-- LDX zz, $A6, 40_load_store.md R162 -/
  | ldxZp (zz : Byte)
  /-- SMB2 zz, $A7, 41_alu.md R229 -/
  | smb2 (zz : Byte)
  /-- TAY, $A8, 40_load_store.md R169 -/
  | tay
  /-- LDA #nn, $A9, 40_load_store.md R161 -/
  | ldaImm (nn : Byte)
  /-- TAX, $AA, 40_load_store.md R168 -/
  | tax
  /-- LDY hhll, $AC, 40_load_store.md R163 -/
  | ldyAbs (hhll : Word)
  /-- LDA hhll, $AD, 40_load_store.md R161 -/
  | ldaAbs (hhll : Word)
  /-- LDX hhll, $AE, 40_load_store.md R162 -/
  | ldxAbs (hhll : Word)
  /-- BBS2 zz,label, $AF, 42_control.md R271 -/
  | bbs2 (zz rr : Byte)
  /-- BCS label, $B0, 42_control.md R266 -/
  | bcs (rr : Byte)
  /-- LDA (zz),Y, $B1, 40_load_store.md R161 -/
  | ldaIndY (zz : Byte)
  /-- LDA (zz), $B2, 40_load_store.md R161 -/
  | ldaInd (zz : Byte)
  /-- TST #nn,hhll,X, $B3, 41_alu.md R215 -/
  | tstImmAbsX (nn : Byte) (hhll : Word)
  /-- LDY zz,X, $B4, 40_load_store.md R163 -/
  | ldyZpX (zz : Byte)
  /-- LDA zz,X, $B5, 40_load_store.md R161 -/
  | ldaZpX (zz : Byte)
  /-- LDX zz,Y, $B6, 40_load_store.md R162 -/
  | ldxZpY (zz : Byte)
  /-- SMB3 zz, $B7, 41_alu.md R229 -/
  | smb3 (zz : Byte)
  /-- CLV, $B8, 43_system.md R307 -/
  | clv
  /-- LDA hhll,Y, $B9, 40_load_store.md R161 -/
  | ldaAbsY (hhll : Word)
  /-- TSX, $BA, 40_load_store.md R172 -/
  | tsx
  /-- LDY hhll,X, $BC, 40_load_store.md R163 -/
  | ldyAbsX (hhll : Word)
  /-- LDA hhll,X, $BD, 40_load_store.md R161 -/
  | ldaAbsX (hhll : Word)
  /-- LDX hhll,Y, $BE, 40_load_store.md R162 -/
  | ldxAbsY (hhll : Word)
  /-- BBS3 zz,label, $BF, 42_control.md R271 -/
  | bbs3 (zz rr : Byte)
  /-- CPY #nn, $C0, 41_alu.md R213 -/
  | cpyImm (nn : Byte)
  /-- CMP (zz,X), $C1, 41_alu.md R211 -/
  | cmpIndX (zz : Byte)
  /-- CLY, $C2, 40_load_store.md R179 -/
  | cly
  /-- TDD ssss,dddd,llll, $C3, 44_block_transfer.md R342 -/
  | tdd (src dst len : Word)
  /-- CPY zz, $C4, 41_alu.md R213 -/
  | cpyZp (zz : Byte)
  /-- CMP zz, $C5, 41_alu.md R211 -/
  | cmpZp (zz : Byte)
  /-- DEC zz, $C6, 41_alu.md R219 -/
  | decZp (zz : Byte)
  /-- SMB4 zz, $C7, 41_alu.md R229 -/
  | smb4 (zz : Byte)
  /-- INY, $C8, 41_alu.md R221 -/
  | iny
  /-- CMP #nn, $C9, 41_alu.md R211 -/
  | cmpImm (nn : Byte)
  /-- DEX, $CA, 41_alu.md R222 -/
  | dex
  /-- WAI, $CB, 43_system.md R330 -/
  | wai
  /-- CPY hhll, $CC, 41_alu.md R213 -/
  | cpyAbs (hhll : Word)
  /-- CMP hhll, $CD, 41_alu.md R211 -/
  | cmpAbs (hhll : Word)
  /-- DEC hhll, $CE, 41_alu.md R219 -/
  | decAbs (hhll : Word)
  /-- BBS4 zz,label, $CF, 42_control.md R271 -/
  | bbs4 (zz rr : Byte)
  /-- BNE label, $D0, 42_control.md R267 -/
  | bne (rr : Byte)
  /-- CMP (zz),Y, $D1, 41_alu.md R211 -/
  | cmpIndY (zz : Byte)
  /-- CMP (zz), $D2, 41_alu.md R211 -/
  | cmpInd (zz : Byte)
  /-- TIN ssss,dddd,llll, $D3, 44_block_transfer.md R343 -/
  | tin (src dst len : Word)
  /-- CSH, $D4, 43_system.md R311 -/
  | csh
  /-- CMP zz,X, $D5, 41_alu.md R211 -/
  | cmpZpX (zz : Byte)
  /-- DEC zz,X, $D6, 41_alu.md R219 -/
  | decZpX (zz : Byte)
  /-- SMB5 zz, $D7, 41_alu.md R229 -/
  | smb5 (zz : Byte)
  /-- CLD, $D8, 43_system.md R305 -/
  | cld
  /-- CMP hhll,Y, $D9, 41_alu.md R211 -/
  | cmpAbsY (hhll : Word)
  /-- PHX, $DA, 40_load_store.md R182 -/
  | phx
  /-- STP, $DB, 43_system.md R331 -/
  | stp
  /-- CMP hhll,X, $DD, 41_alu.md R211 -/
  | cmpAbsX (hhll : Word)
  /-- DEC hhll,X, $DE, 41_alu.md R219 -/
  | decAbsX (hhll : Word)
  /-- BBS5 zz,label, $DF, 42_control.md R271 -/
  | bbs5 (zz rr : Byte)
  /-- CPX #nn, $E0, 41_alu.md R212 -/
  | cpxImm (nn : Byte)
  /-- SBC (zz,X), $E1, 41_alu.md R207 -/
  | sbcIndX (zz : Byte)
  /-- TIA ssss,dddd,llll, $E3, 44_block_transfer.md R344 -/
  | tia (src dst len : Word)
  /-- CPX zz, $E4, 41_alu.md R212 -/
  | cpxZp (zz : Byte)
  /-- SBC zz, $E5, 41_alu.md R207 -/
  | sbcZp (zz : Byte)
  /-- INC zz, $E6, 41_alu.md R218 -/
  | incZp (zz : Byte)
  /-- SMB6 zz, $E7, 41_alu.md R229 -/
  | smb6 (zz : Byte)
  /-- INX, $E8, 41_alu.md R220 -/
  | inx
  /-- SBC #nn, $E9, 41_alu.md R207 -/
  | sbcImm (nn : Byte)
  /-- NOP, $EA, 43_system.md R325 -/
  | nop
  /-- CPX hhll, $EC, 41_alu.md R212 -/
  | cpxAbs (hhll : Word)
  /-- SBC hhll, $ED, 41_alu.md R207 -/
  | sbcAbs (hhll : Word)
  /-- INC hhll, $EE, 41_alu.md R218 -/
  | incAbs (hhll : Word)
  /-- BBS6 zz,label, $EF, 42_control.md R271 -/
  | bbs6 (zz rr : Byte)
  /-- BEQ label, $F0, 42_control.md R268 -/
  | beq (rr : Byte)
  /-- SBC (zz),Y, $F1, 41_alu.md R207 -/
  | sbcIndY (zz : Byte)
  /-- SBC (zz), $F2, 41_alu.md R207 -/
  | sbcInd (zz : Byte)
  /-- TAI ssss,dddd,llll, $F3, 44_block_transfer.md R345 -/
  | tai (src dst len : Word)
  /-- SET, $F4, 43_system.md R308 -/
  | set
  /-- SBC zz,X, $F5, 41_alu.md R207 -/
  | sbcZpX (zz : Byte)
  /-- INC zz,X, $F6, 41_alu.md R218 -/
  | incZpX (zz : Byte)
  /-- SMB7 zz, $F7, 41_alu.md R229 -/
  | smb7 (zz : Byte)
  /-- SED, $F8, 43_system.md R306 -/
  | sed
  /-- SBC hhll,Y, $F9, 41_alu.md R207 -/
  | sbcAbsY (hhll : Word)
  /-- PLX, $FA, 40_load_store.md R186 -/
  | plx
  /-- SBC hhll,X, $FD, 41_alu.md R207 -/
  | sbcAbsX (hhll : Word)
  /-- INC hhll,X, $FE, 41_alu.md R218 -/
  | incAbsX (hhll : Word)
  /-- BBS7 zz,label, $FF, 42_control.md R271 -/
  | bbs7 (zz rr : Byte)
  /-- An undefined opcode `op`, 43_system.md R326 -/
  | undefined (op : Byte)
deriving DecidableEq, Repr

end Sys2Proof
end

