-- ==== Sys2Proof/Machine/Dispatch.lean ====
section
/-! DEFINITION. The meaning of each instruction: one arm a constructor. -/

namespace Sys2Proof.Machine

def exec (i : Instr) (s : State) : Host.Outcome State Fault Refusal :=
  match i with
  | .brk sig => Sys2Proof.Machine.execBrk sig s
  | .oraIndX zz => Sys2Proof.Machine.execOraIndX zz s
  | .sxy => Sys2Proof.Machine.execSxy s
  | .st0 nn => Sys2Proof.Machine.execSt0 nn s
  | .tsbZp zz => Sys2Proof.Machine.execTsbZp zz s
  | .oraZp zz => Sys2Proof.Machine.execOraZp zz s
  | .aslZp zz => Sys2Proof.Machine.execAslZp zz s
  | .rmb0 zz => Sys2Proof.Machine.execRmb0 zz s
  | .php => Sys2Proof.Machine.execPhp s
  | .oraImm nn => Sys2Proof.Machine.execOraImm nn s
  | .aslA => Sys2Proof.Machine.execAslA s
  | .tsbAbs hhll => Sys2Proof.Machine.execTsbAbs hhll s
  | .oraAbs hhll => Sys2Proof.Machine.execOraAbs hhll s
  | .aslAbs hhll => Sys2Proof.Machine.execAslAbs hhll s
  | .bbr0 zz rr => Sys2Proof.Machine.execBbr0 zz rr s
  | .bpl rr => Sys2Proof.Machine.execBpl rr s
  | .oraIndY zz => Sys2Proof.Machine.execOraIndY zz s
  | .oraInd zz => Sys2Proof.Machine.execOraInd zz s
  | .st1 nn => Sys2Proof.Machine.execSt1 nn s
  | .trbZp zz => Sys2Proof.Machine.execTrbZp zz s
  | .oraZpX zz => Sys2Proof.Machine.execOraZpX zz s
  | .aslZpX zz => Sys2Proof.Machine.execAslZpX zz s
  | .rmb1 zz => Sys2Proof.Machine.execRmb1 zz s
  | .clc => Sys2Proof.Machine.execClc s
  | .oraAbsY hhll => Sys2Proof.Machine.execOraAbsY hhll s
  | .incA => Sys2Proof.Machine.execIncA s
  | .trbAbs hhll => Sys2Proof.Machine.execTrbAbs hhll s
  | .oraAbsX hhll => Sys2Proof.Machine.execOraAbsX hhll s
  | .aslAbsX hhll => Sys2Proof.Machine.execAslAbsX hhll s
  | .bbr1 zz rr => Sys2Proof.Machine.execBbr1 zz rr s
  | .jsr hhll => Sys2Proof.Machine.execJsr hhll s
  | .andIndX zz => Sys2Proof.Machine.execAndIndX zz s
  | .sax => Sys2Proof.Machine.execSax s
  | .st2 nn => Sys2Proof.Machine.execSt2 nn s
  | .bitZp zz => Sys2Proof.Machine.execBitZp zz s
  | .andZp zz => Sys2Proof.Machine.execAndZp zz s
  | .rolZp zz => Sys2Proof.Machine.execRolZp zz s
  | .rmb2 zz => Sys2Proof.Machine.execRmb2 zz s
  | .plp => Sys2Proof.Machine.execPlp s
  | .andImm nn => Sys2Proof.Machine.execAndImm nn s
  | .rolA => Sys2Proof.Machine.execRolA s
  | .bitAbs hhll => Sys2Proof.Machine.execBitAbs hhll s
  | .andAbs hhll => Sys2Proof.Machine.execAndAbs hhll s
  | .rolAbs hhll => Sys2Proof.Machine.execRolAbs hhll s
  | .bbr2 zz rr => Sys2Proof.Machine.execBbr2 zz rr s
  | .bmi rr => Sys2Proof.Machine.execBmi rr s
  | .andIndY zz => Sys2Proof.Machine.execAndIndY zz s
  | .andInd zz => Sys2Proof.Machine.execAndInd zz s
  | .bitZpX zz => Sys2Proof.Machine.execBitZpX zz s
  | .andZpX zz => Sys2Proof.Machine.execAndZpX zz s
  | .rolZpX zz => Sys2Proof.Machine.execRolZpX zz s
  | .rmb3 zz => Sys2Proof.Machine.execRmb3 zz s
  | .sec => Sys2Proof.Machine.execSec s
  | .andAbsY hhll => Sys2Proof.Machine.execAndAbsY hhll s
  | .decA => Sys2Proof.Machine.execDecA s
  | .bitAbsX hhll => Sys2Proof.Machine.execBitAbsX hhll s
  | .andAbsX hhll => Sys2Proof.Machine.execAndAbsX hhll s
  | .rolAbsX hhll => Sys2Proof.Machine.execRolAbsX hhll s
  | .bbr3 zz rr => Sys2Proof.Machine.execBbr3 zz rr s
  | .rti => Sys2Proof.Machine.execRti s
  | .eorIndX zz => Sys2Proof.Machine.execEorIndX zz s
  | .say => Sys2Proof.Machine.execSay s
  | .tma nn => Sys2Proof.Machine.execTma nn s
  | .bsr rr => Sys2Proof.Machine.execBsr rr s
  | .eorZp zz => Sys2Proof.Machine.execEorZp zz s
  | .lsrZp zz => Sys2Proof.Machine.execLsrZp zz s
  | .rmb4 zz => Sys2Proof.Machine.execRmb4 zz s
  | .pha => Sys2Proof.Machine.execPha s
  | .eorImm nn => Sys2Proof.Machine.execEorImm nn s
  | .lsrA => Sys2Proof.Machine.execLsrA s
  | .jmpAbs hhll => Sys2Proof.Machine.execJmpAbs hhll s
  | .eorAbs hhll => Sys2Proof.Machine.execEorAbs hhll s
  | .lsrAbs hhll => Sys2Proof.Machine.execLsrAbs hhll s
  | .bbr4 zz rr => Sys2Proof.Machine.execBbr4 zz rr s
  | .bvc rr => Sys2Proof.Machine.execBvc rr s
  | .eorIndY zz => Sys2Proof.Machine.execEorIndY zz s
  | .eorInd zz => Sys2Proof.Machine.execEorInd zz s
  | .tam nn => Sys2Proof.Machine.execTam nn s
  | .csl => Sys2Proof.Machine.execCsl s
  | .eorZpX zz => Sys2Proof.Machine.execEorZpX zz s
  | .lsrZpX zz => Sys2Proof.Machine.execLsrZpX zz s
  | .rmb5 zz => Sys2Proof.Machine.execRmb5 zz s
  | .cli => Sys2Proof.Machine.execCli s
  | .eorAbsY hhll => Sys2Proof.Machine.execEorAbsY hhll s
  | .phy => Sys2Proof.Machine.execPhy s
  | .eorAbsX hhll => Sys2Proof.Machine.execEorAbsX hhll s
  | .lsrAbsX hhll => Sys2Proof.Machine.execLsrAbsX hhll s
  | .bbr5 zz rr => Sys2Proof.Machine.execBbr5 zz rr s
  | .rts => Sys2Proof.Machine.execRts s
  | .adcIndX zz => Sys2Proof.Machine.execAdcIndX zz s
  | .cla => Sys2Proof.Machine.execCla s
  | .stzZp zz => Sys2Proof.Machine.execStzZp zz s
  | .adcZp zz => Sys2Proof.Machine.execAdcZp zz s
  | .rorZp zz => Sys2Proof.Machine.execRorZp zz s
  | .rmb6 zz => Sys2Proof.Machine.execRmb6 zz s
  | .pla => Sys2Proof.Machine.execPla s
  | .adcImm nn => Sys2Proof.Machine.execAdcImm nn s
  | .rorA => Sys2Proof.Machine.execRorA s
  | .jmpInd hhll => Sys2Proof.Machine.execJmpInd hhll s
  | .adcAbs hhll => Sys2Proof.Machine.execAdcAbs hhll s
  | .rorAbs hhll => Sys2Proof.Machine.execRorAbs hhll s
  | .bbr6 zz rr => Sys2Proof.Machine.execBbr6 zz rr s
  | .bvs rr => Sys2Proof.Machine.execBvs rr s
  | .adcIndY zz => Sys2Proof.Machine.execAdcIndY zz s
  | .adcInd zz => Sys2Proof.Machine.execAdcInd zz s
  | .tii src dst len => Sys2Proof.Machine.execTii src dst len s
  | .stzZpX zz => Sys2Proof.Machine.execStzZpX zz s
  | .adcZpX zz => Sys2Proof.Machine.execAdcZpX zz s
  | .rorZpX zz => Sys2Proof.Machine.execRorZpX zz s
  | .rmb7 zz => Sys2Proof.Machine.execRmb7 zz s
  | .sei => Sys2Proof.Machine.execSei s
  | .adcAbsY hhll => Sys2Proof.Machine.execAdcAbsY hhll s
  | .ply => Sys2Proof.Machine.execPly s
  | .jmpIndX hhll => Sys2Proof.Machine.execJmpIndX hhll s
  | .adcAbsX hhll => Sys2Proof.Machine.execAdcAbsX hhll s
  | .rorAbsX hhll => Sys2Proof.Machine.execRorAbsX hhll s
  | .bbr7 zz rr => Sys2Proof.Machine.execBbr7 zz rr s
  | .bra rr => Sys2Proof.Machine.execBra rr s
  | .staIndX zz => Sys2Proof.Machine.execStaIndX zz s
  | .clx => Sys2Proof.Machine.execClx s
  | .tstImmZp nn zz => Sys2Proof.Machine.execTstImmZp nn zz s
  | .styZp zz => Sys2Proof.Machine.execStyZp zz s
  | .staZp zz => Sys2Proof.Machine.execStaZp zz s
  | .stxZp zz => Sys2Proof.Machine.execStxZp zz s
  | .smb0 zz => Sys2Proof.Machine.execSmb0 zz s
  | .dey => Sys2Proof.Machine.execDey s
  | .bitImm nn => Sys2Proof.Machine.execBitImm nn s
  | .txa => Sys2Proof.Machine.execTxa s
  | .styAbs hhll => Sys2Proof.Machine.execStyAbs hhll s
  | .staAbs hhll => Sys2Proof.Machine.execStaAbs hhll s
  | .stxAbs hhll => Sys2Proof.Machine.execStxAbs hhll s
  | .bbs0 zz rr => Sys2Proof.Machine.execBbs0 zz rr s
  | .bcc rr => Sys2Proof.Machine.execBcc rr s
  | .staIndY zz => Sys2Proof.Machine.execStaIndY zz s
  | .staInd zz => Sys2Proof.Machine.execStaInd zz s
  | .tstImmAbs nn hhll => Sys2Proof.Machine.execTstImmAbs nn hhll s
  | .styZpX zz => Sys2Proof.Machine.execStyZpX zz s
  | .staZpX zz => Sys2Proof.Machine.execStaZpX zz s
  | .stxZpY zz => Sys2Proof.Machine.execStxZpY zz s
  | .smb1 zz => Sys2Proof.Machine.execSmb1 zz s
  | .tya => Sys2Proof.Machine.execTya s
  | .staAbsY hhll => Sys2Proof.Machine.execStaAbsY hhll s
  | .txs => Sys2Proof.Machine.execTxs s
  | .stzAbs hhll => Sys2Proof.Machine.execStzAbs hhll s
  | .staAbsX hhll => Sys2Proof.Machine.execStaAbsX hhll s
  | .stzAbsX hhll => Sys2Proof.Machine.execStzAbsX hhll s
  | .bbs1 zz rr => Sys2Proof.Machine.execBbs1 zz rr s
  | .ldyImm nn => Sys2Proof.Machine.execLdyImm nn s
  | .ldaIndX zz => Sys2Proof.Machine.execLdaIndX zz s
  | .ldxImm nn => Sys2Proof.Machine.execLdxImm nn s
  | .tstImmZpX nn zz => Sys2Proof.Machine.execTstImmZpX nn zz s
  | .ldyZp zz => Sys2Proof.Machine.execLdyZp zz s
  | .ldaZp zz => Sys2Proof.Machine.execLdaZp zz s
  | .ldxZp zz => Sys2Proof.Machine.execLdxZp zz s
  | .smb2 zz => Sys2Proof.Machine.execSmb2 zz s
  | .tay => Sys2Proof.Machine.execTay s
  | .ldaImm nn => Sys2Proof.Machine.execLdaImm nn s
  | .tax => Sys2Proof.Machine.execTax s
  | .ldyAbs hhll => Sys2Proof.Machine.execLdyAbs hhll s
  | .ldaAbs hhll => Sys2Proof.Machine.execLdaAbs hhll s
  | .ldxAbs hhll => Sys2Proof.Machine.execLdxAbs hhll s
  | .bbs2 zz rr => Sys2Proof.Machine.execBbs2 zz rr s
  | .bcs rr => Sys2Proof.Machine.execBcs rr s
  | .ldaIndY zz => Sys2Proof.Machine.execLdaIndY zz s
  | .ldaInd zz => Sys2Proof.Machine.execLdaInd zz s
  | .tstImmAbsX nn hhll => Sys2Proof.Machine.execTstImmAbsX nn hhll s
  | .ldyZpX zz => Sys2Proof.Machine.execLdyZpX zz s
  | .ldaZpX zz => Sys2Proof.Machine.execLdaZpX zz s
  | .ldxZpY zz => Sys2Proof.Machine.execLdxZpY zz s
  | .smb3 zz => Sys2Proof.Machine.execSmb3 zz s
  | .clv => Sys2Proof.Machine.execClv s
  | .ldaAbsY hhll => Sys2Proof.Machine.execLdaAbsY hhll s
  | .tsx => Sys2Proof.Machine.execTsx s
  | .ldyAbsX hhll => Sys2Proof.Machine.execLdyAbsX hhll s
  | .ldaAbsX hhll => Sys2Proof.Machine.execLdaAbsX hhll s
  | .ldxAbsY hhll => Sys2Proof.Machine.execLdxAbsY hhll s
  | .bbs3 zz rr => Sys2Proof.Machine.execBbs3 zz rr s
  | .cpyImm nn => Sys2Proof.Machine.execCpyImm nn s
  | .cmpIndX zz => Sys2Proof.Machine.execCmpIndX zz s
  | .cly => Sys2Proof.Machine.execCly s
  | .tdd src dst len => Sys2Proof.Machine.execTdd src dst len s
  | .cpyZp zz => Sys2Proof.Machine.execCpyZp zz s
  | .cmpZp zz => Sys2Proof.Machine.execCmpZp zz s
  | .decZp zz => Sys2Proof.Machine.execDecZp zz s
  | .smb4 zz => Sys2Proof.Machine.execSmb4 zz s
  | .iny => Sys2Proof.Machine.execIny s
  | .cmpImm nn => Sys2Proof.Machine.execCmpImm nn s
  | .dex => Sys2Proof.Machine.execDex s
  | .wai => Sys2Proof.Machine.execWai s
  | .cpyAbs hhll => Sys2Proof.Machine.execCpyAbs hhll s
  | .cmpAbs hhll => Sys2Proof.Machine.execCmpAbs hhll s
  | .decAbs hhll => Sys2Proof.Machine.execDecAbs hhll s
  | .bbs4 zz rr => Sys2Proof.Machine.execBbs4 zz rr s
  | .bne rr => Sys2Proof.Machine.execBne rr s
  | .cmpIndY zz => Sys2Proof.Machine.execCmpIndY zz s
  | .cmpInd zz => Sys2Proof.Machine.execCmpInd zz s
  | .tin src dst len => Sys2Proof.Machine.execTin src dst len s
  | .csh => Sys2Proof.Machine.execCsh s
  | .cmpZpX zz => Sys2Proof.Machine.execCmpZpX zz s
  | .decZpX zz => Sys2Proof.Machine.execDecZpX zz s
  | .smb5 zz => Sys2Proof.Machine.execSmb5 zz s
  | .cld => Sys2Proof.Machine.execCld s
  | .cmpAbsY hhll => Sys2Proof.Machine.execCmpAbsY hhll s
  | .phx => Sys2Proof.Machine.execPhx s
  | .stp => Sys2Proof.Machine.execStp s
  | .cmpAbsX hhll => Sys2Proof.Machine.execCmpAbsX hhll s
  | .decAbsX hhll => Sys2Proof.Machine.execDecAbsX hhll s
  | .bbs5 zz rr => Sys2Proof.Machine.execBbs5 zz rr s
  | .cpxImm nn => Sys2Proof.Machine.execCpxImm nn s
  | .sbcIndX zz => Sys2Proof.Machine.execSbcIndX zz s
  | .tia src dst len => Sys2Proof.Machine.execTia src dst len s
  | .cpxZp zz => Sys2Proof.Machine.execCpxZp zz s
  | .sbcZp zz => Sys2Proof.Machine.execSbcZp zz s
  | .incZp zz => Sys2Proof.Machine.execIncZp zz s
  | .smb6 zz => Sys2Proof.Machine.execSmb6 zz s
  | .inx => Sys2Proof.Machine.execInx s
  | .sbcImm nn => Sys2Proof.Machine.execSbcImm nn s
  | .nop => Sys2Proof.Machine.execNop s
  | .cpxAbs hhll => Sys2Proof.Machine.execCpxAbs hhll s
  | .sbcAbs hhll => Sys2Proof.Machine.execSbcAbs hhll s
  | .incAbs hhll => Sys2Proof.Machine.execIncAbs hhll s
  | .bbs6 zz rr => Sys2Proof.Machine.execBbs6 zz rr s
  | .beq rr => Sys2Proof.Machine.execBeq rr s
  | .sbcIndY zz => Sys2Proof.Machine.execSbcIndY zz s
  | .sbcInd zz => Sys2Proof.Machine.execSbcInd zz s
  | .tai src dst len => Sys2Proof.Machine.execTai src dst len s
  | .set => Sys2Proof.Machine.execSet s
  | .sbcZpX zz => Sys2Proof.Machine.execSbcZpX zz s
  | .incZpX zz => Sys2Proof.Machine.execIncZpX zz s
  | .smb7 zz => Sys2Proof.Machine.execSmb7 zz s
  | .sed => Sys2Proof.Machine.execSed s
  | .sbcAbsY hhll => Sys2Proof.Machine.execSbcAbsY hhll s
  | .plx => Sys2Proof.Machine.execPlx s
  | .sbcAbsX hhll => Sys2Proof.Machine.execSbcAbsX hhll s
  | .incAbsX hhll => Sys2Proof.Machine.execIncAbsX hhll s
  | .bbs7 zz rr => Sys2Proof.Machine.execBbs7 zz rr s
  | .undefined op => Sys2Proof.Machine.execUndefined op s

end Sys2Proof.Machine
end

