-- ==== Sys2Proof/Decode.lean ====
section
/-! DEFINITION. The decoder, total on any bytes, written from the opcode map of 30_encoding.md R158, and
the encoder, written from the opcodes of opcode_table.json and the layouts of R132. -/

namespace Sys2Proof

open Sys2Proof.Machine

/-! ### Decoder -/

/-- An operand layout and the instruction its bytes make (30_encoding.md R132). -/
inductive Format where
  | implied (i : Instr)
  | byte (f : Byte → Instr)
  | word (f : Word → Instr)
  | twoBytes (f : Byte → Byte → Instr)
  | byteWord (f : Byte → Word → Instr)
  | threeWords (f : Word → Word → Word → Instr)

/-- How many operand bytes a layout has (30_encoding.md R131). -/
def Format.operandLen : Format → Nat
  | .implied _ => 0
  | .byte _ => 1
  | .word _ => 2
  | .twoBytes _ => 2
  | .byteWord _ => 3
  | .threeWords _ => 6

/-- The instruction made from the operand bytes, a word's low byte first (30_encoding.md R132); a byte the
list lacks is read as 0, and `decode` and the fetch never lack one. -/
def Format.build (f : Format) (bs : List Byte) : Instr :=
  let b (k : Nat) : Byte := bs.getD k 0
  match f with
  | .implied i => i
  | .byte g => g (b 0)
  | .word g => g (joinBytes (b 0) (b 1))
  | .twoBytes g => g (b 0) (b 1)
  | .byteWord g => g (b 0) (joinBytes (b 1) (b 2))
  | .threeWords g => g (joinBytes (b 0) (b 1)) (joinBytes (b 2) (b 3)) (joinBytes (b 4) (b 5))

/-- Row 0 of the map. -/
def opcodeRow0 : List Format :=
  [.byte .brk, .byte .oraIndX, .implied .sxy, .byte .st0, .byte .tsbZp, .byte .oraZp,
    .byte .aslZp, .byte .rmb0, .implied .php, .byte .oraImm, .implied .aslA,
    .implied (.undefined 0x0B), .word .tsbAbs, .word .oraAbs, .word .aslAbs, .twoBytes .bbr0]

/-- Row 1 of the map. -/
def opcodeRow1 : List Format :=
  [.byte .bpl, .byte .oraIndY, .byte .oraInd, .byte .st1, .byte .trbZp, .byte .oraZpX,
    .byte .aslZpX, .byte .rmb1, .implied .clc, .word .oraAbsY, .implied .incA,
    .implied (.undefined 0x1B), .word .trbAbs, .word .oraAbsX, .word .aslAbsX, .twoBytes .bbr1]

/-- Row 2 of the map. -/
def opcodeRow2 : List Format :=
  [.word .jsr, .byte .andIndX, .implied .sax, .byte .st2, .byte .bitZp, .byte .andZp,
    .byte .rolZp, .byte .rmb2, .implied .plp, .byte .andImm, .implied .rolA,
    .implied (.undefined 0x2B), .word .bitAbs, .word .andAbs, .word .rolAbs, .twoBytes .bbr2]

/-- Row 3 of the map. -/
def opcodeRow3 : List Format :=
  [.byte .bmi, .byte .andIndY, .byte .andInd, .implied (.undefined 0x33), .byte .bitZpX,
    .byte .andZpX, .byte .rolZpX, .byte .rmb3, .implied .sec, .word .andAbsY, .implied .decA,
    .implied (.undefined 0x3B), .word .bitAbsX, .word .andAbsX, .word .rolAbsX, .twoBytes .bbr3]

/-- Row 4 of the map. -/
def opcodeRow4 : List Format :=
  [.implied .rti, .byte .eorIndX, .implied .say, .byte .tma, .byte .bsr, .byte .eorZp,
    .byte .lsrZp, .byte .rmb4, .implied .pha, .byte .eorImm, .implied .lsrA,
    .implied (.undefined 0x4B), .word .jmpAbs, .word .eorAbs, .word .lsrAbs, .twoBytes .bbr4]

/-- Row 5 of the map. -/
def opcodeRow5 : List Format :=
  [.byte .bvc, .byte .eorIndY, .byte .eorInd, .byte .tam, .implied .csl, .byte .eorZpX,
    .byte .lsrZpX, .byte .rmb5, .implied .cli, .word .eorAbsY, .implied .phy,
    .implied (.undefined 0x5B), .implied (.undefined 0x5C), .word .eorAbsX, .word .lsrAbsX,
    .twoBytes .bbr5]

/-- Row 6 of the map. -/
def opcodeRow6 : List Format :=
  [.implied .rts, .byte .adcIndX, .implied .cla, .implied (.undefined 0x63), .byte .stzZp,
    .byte .adcZp, .byte .rorZp, .byte .rmb6, .implied .pla, .byte .adcImm, .implied .rorA,
    .implied (.undefined 0x6B), .word .jmpInd, .word .adcAbs, .word .rorAbs, .twoBytes .bbr6]

/-- Row 7 of the map. -/
def opcodeRow7 : List Format :=
  [.byte .bvs, .byte .adcIndY, .byte .adcInd, .threeWords .tii, .byte .stzZpX, .byte .adcZpX,
    .byte .rorZpX, .byte .rmb7, .implied .sei, .word .adcAbsY, .implied .ply,
    .implied (.undefined 0x7B), .word .jmpIndX, .word .adcAbsX, .word .rorAbsX, .twoBytes .bbr7]

/-- Row 8 of the map. -/
def opcodeRow8 : List Format :=
  [.byte .bra, .byte .staIndX, .implied .clx, .twoBytes .tstImmZp, .byte .styZp, .byte .staZp,
    .byte .stxZp, .byte .smb0, .implied .dey, .byte .bitImm, .implied .txa,
    .implied (.undefined 0x8B), .word .styAbs, .word .staAbs, .word .stxAbs, .twoBytes .bbs0]

/-- Row 9 of the map. -/
def opcodeRow9 : List Format :=
  [.byte .bcc, .byte .staIndY, .byte .staInd, .byteWord .tstImmAbs, .byte .styZpX,
    .byte .staZpX, .byte .stxZpY, .byte .smb1, .implied .tya, .word .staAbsY, .implied .txs,
    .implied (.undefined 0x9B), .word .stzAbs, .word .staAbsX, .word .stzAbsX, .twoBytes .bbs1]

/-- Row A of the map. -/
def opcodeRowA : List Format :=
  [.byte .ldyImm, .byte .ldaIndX, .byte .ldxImm, .twoBytes .tstImmZpX, .byte .ldyZp,
    .byte .ldaZp, .byte .ldxZp, .byte .smb2, .implied .tay, .byte .ldaImm, .implied .tax,
    .implied (.undefined 0xAB), .word .ldyAbs, .word .ldaAbs, .word .ldxAbs, .twoBytes .bbs2]

/-- Row B of the map. -/
def opcodeRowB : List Format :=
  [.byte .bcs, .byte .ldaIndY, .byte .ldaInd, .byteWord .tstImmAbsX, .byte .ldyZpX,
    .byte .ldaZpX, .byte .ldxZpY, .byte .smb3, .implied .clv, .word .ldaAbsY, .implied .tsx,
    .implied (.undefined 0xBB), .word .ldyAbsX, .word .ldaAbsX, .word .ldxAbsY, .twoBytes .bbs3]

/-- Row C of the map. -/
def opcodeRowC : List Format :=
  [.byte .cpyImm, .byte .cmpIndX, .implied .cly, .threeWords .tdd, .byte .cpyZp, .byte .cmpZp,
    .byte .decZp, .byte .smb4, .implied .iny, .byte .cmpImm, .implied .dex, .implied .wai,
    .word .cpyAbs, .word .cmpAbs, .word .decAbs, .twoBytes .bbs4]

/-- Row D of the map. -/
def opcodeRowD : List Format :=
  [.byte .bne, .byte .cmpIndY, .byte .cmpInd, .threeWords .tin, .implied .csh, .byte .cmpZpX,
    .byte .decZpX, .byte .smb5, .implied .cld, .word .cmpAbsY, .implied .phx, .implied .stp,
    .implied (.undefined 0xDC), .word .cmpAbsX, .word .decAbsX, .twoBytes .bbs5]

/-- Row E of the map. -/
def opcodeRowE : List Format :=
  [.byte .cpxImm, .byte .sbcIndX, .implied (.undefined 0xE2), .threeWords .tia, .byte .cpxZp,
    .byte .sbcZp, .byte .incZp, .byte .smb6, .implied .inx, .byte .sbcImm, .implied .nop,
    .implied (.undefined 0xEB), .word .cpxAbs, .word .sbcAbs, .word .incAbs, .twoBytes .bbs6]

/-- Row F of the map. -/
def opcodeRowF : List Format :=
  [.byte .beq, .byte .sbcIndY, .byte .sbcInd, .threeWords .tai, .implied .set, .byte .sbcZpX,
    .byte .incZpX, .byte .smb7, .implied .sed, .word .sbcAbsY, .implied .plx,
    .implied (.undefined 0xFB), .implied (.undefined 0xFC), .word .sbcAbsX, .word .incAbsX,
    .twoBytes .bbs7]

/-- The opcode map, row by high nibble (30_encoding.md R158). -/
def opcodeMap : List (List Format) :=
  [opcodeRow0, opcodeRow1, opcodeRow2, opcodeRow3, opcodeRow4, opcodeRow5, opcodeRow6, opcodeRow7,
    opcodeRow8, opcodeRow9, opcodeRowA, opcodeRowB, opcodeRowC, opcodeRowD, opcodeRowE, opcodeRowF]

/-- The layout and instruction of an opcode byte: the opcode alone decides both (30_encoding.md R130). -/
def formatOf (op : Byte) : Format :=
  (opcodeMap.getD (op.toNat / 16) []).getD (op.toNat % 16) (.implied (.undefined op))

/-- Why bytes do not decode: every opcode does (30_encoding.md R137), so only their end can stop it. -/
inductive DecodeError where
  /-- No byte at all: there is no opcode. Raised by `decode` alone, never by a step. Safe. -/
  | noOpcode
  /-- Fewer operand bytes than the opcode's layout has. Raised by `decode` alone, never by a step. Safe. -/
  | missingOperand
deriving DecidableEq, Repr

/-- The instruction at the head of a list of bytes and the bytes after it (30_encoding.md R137). -/
def decode : List Byte → Except DecodeError (Instr × List Byte)
  | [] => .error .noOpcode
  | op :: rest =>
    if rest.length < (formatOf op).operandLen then .error .missingOperand
    else .ok ((formatOf op).build rest, rest.drop (formatOf op).operandLen)

/-! ### Encoder -/

/-- The bytes of an instruction (30_encoding.md R132, opcode_table.json). -/
def encode : Instr → List Byte
  | .brk sig => [0x00, sig]
  | .oraIndX zz => [0x01, zz]
  | .sxy => [0x02]
  | .st0 nn => [0x03, nn]
  | .tsbZp zz => [0x04, zz]
  | .oraZp zz => [0x05, zz]
  | .aslZp zz => [0x06, zz]
  | .rmb0 zz => [0x07, zz]
  | .php => [0x08]
  | .oraImm nn => [0x09, nn]
  | .aslA => [0x0A]
  | .tsbAbs hhll => [0x0C, loByte hhll, hiByte hhll]
  | .oraAbs hhll => [0x0D, loByte hhll, hiByte hhll]
  | .aslAbs hhll => [0x0E, loByte hhll, hiByte hhll]
  | .bbr0 zz rr => [0x0F, zz, rr]
  | .bpl rr => [0x10, rr]
  | .oraIndY zz => [0x11, zz]
  | .oraInd zz => [0x12, zz]
  | .st1 nn => [0x13, nn]
  | .trbZp zz => [0x14, zz]
  | .oraZpX zz => [0x15, zz]
  | .aslZpX zz => [0x16, zz]
  | .rmb1 zz => [0x17, zz]
  | .clc => [0x18]
  | .oraAbsY hhll => [0x19, loByte hhll, hiByte hhll]
  | .incA => [0x1A]
  | .trbAbs hhll => [0x1C, loByte hhll, hiByte hhll]
  | .oraAbsX hhll => [0x1D, loByte hhll, hiByte hhll]
  | .aslAbsX hhll => [0x1E, loByte hhll, hiByte hhll]
  | .bbr1 zz rr => [0x1F, zz, rr]
  | .jsr hhll => [0x20, loByte hhll, hiByte hhll]
  | .andIndX zz => [0x21, zz]
  | .sax => [0x22]
  | .st2 nn => [0x23, nn]
  | .bitZp zz => [0x24, zz]
  | .andZp zz => [0x25, zz]
  | .rolZp zz => [0x26, zz]
  | .rmb2 zz => [0x27, zz]
  | .plp => [0x28]
  | .andImm nn => [0x29, nn]
  | .rolA => [0x2A]
  | .bitAbs hhll => [0x2C, loByte hhll, hiByte hhll]
  | .andAbs hhll => [0x2D, loByte hhll, hiByte hhll]
  | .rolAbs hhll => [0x2E, loByte hhll, hiByte hhll]
  | .bbr2 zz rr => [0x2F, zz, rr]
  | .bmi rr => [0x30, rr]
  | .andIndY zz => [0x31, zz]
  | .andInd zz => [0x32, zz]
  | .bitZpX zz => [0x34, zz]
  | .andZpX zz => [0x35, zz]
  | .rolZpX zz => [0x36, zz]
  | .rmb3 zz => [0x37, zz]
  | .sec => [0x38]
  | .andAbsY hhll => [0x39, loByte hhll, hiByte hhll]
  | .decA => [0x3A]
  | .bitAbsX hhll => [0x3C, loByte hhll, hiByte hhll]
  | .andAbsX hhll => [0x3D, loByte hhll, hiByte hhll]
  | .rolAbsX hhll => [0x3E, loByte hhll, hiByte hhll]
  | .bbr3 zz rr => [0x3F, zz, rr]
  | .rti => [0x40]
  | .eorIndX zz => [0x41, zz]
  | .say => [0x42]
  | .tma nn => [0x43, nn]
  | .bsr rr => [0x44, rr]
  | .eorZp zz => [0x45, zz]
  | .lsrZp zz => [0x46, zz]
  | .rmb4 zz => [0x47, zz]
  | .pha => [0x48]
  | .eorImm nn => [0x49, nn]
  | .lsrA => [0x4A]
  | .jmpAbs hhll => [0x4C, loByte hhll, hiByte hhll]
  | .eorAbs hhll => [0x4D, loByte hhll, hiByte hhll]
  | .lsrAbs hhll => [0x4E, loByte hhll, hiByte hhll]
  | .bbr4 zz rr => [0x4F, zz, rr]
  | .bvc rr => [0x50, rr]
  | .eorIndY zz => [0x51, zz]
  | .eorInd zz => [0x52, zz]
  | .tam nn => [0x53, nn]
  | .csl => [0x54]
  | .eorZpX zz => [0x55, zz]
  | .lsrZpX zz => [0x56, zz]
  | .rmb5 zz => [0x57, zz]
  | .cli => [0x58]
  | .eorAbsY hhll => [0x59, loByte hhll, hiByte hhll]
  | .phy => [0x5A]
  | .eorAbsX hhll => [0x5D, loByte hhll, hiByte hhll]
  | .lsrAbsX hhll => [0x5E, loByte hhll, hiByte hhll]
  | .bbr5 zz rr => [0x5F, zz, rr]
  | .rts => [0x60]
  | .adcIndX zz => [0x61, zz]
  | .cla => [0x62]
  | .stzZp zz => [0x64, zz]
  | .adcZp zz => [0x65, zz]
  | .rorZp zz => [0x66, zz]
  | .rmb6 zz => [0x67, zz]
  | .pla => [0x68]
  | .adcImm nn => [0x69, nn]
  | .rorA => [0x6A]
  | .jmpInd hhll => [0x6C, loByte hhll, hiByte hhll]
  | .adcAbs hhll => [0x6D, loByte hhll, hiByte hhll]
  | .rorAbs hhll => [0x6E, loByte hhll, hiByte hhll]
  | .bbr6 zz rr => [0x6F, zz, rr]
  | .bvs rr => [0x70, rr]
  | .adcIndY zz => [0x71, zz]
  | .adcInd zz => [0x72, zz]
  | .tii src dst len => [0x73, loByte src, hiByte src, loByte dst, hiByte dst, loByte len, hiByte len]
  | .stzZpX zz => [0x74, zz]
  | .adcZpX zz => [0x75, zz]
  | .rorZpX zz => [0x76, zz]
  | .rmb7 zz => [0x77, zz]
  | .sei => [0x78]
  | .adcAbsY hhll => [0x79, loByte hhll, hiByte hhll]
  | .ply => [0x7A]
  | .jmpIndX hhll => [0x7C, loByte hhll, hiByte hhll]
  | .adcAbsX hhll => [0x7D, loByte hhll, hiByte hhll]
  | .rorAbsX hhll => [0x7E, loByte hhll, hiByte hhll]
  | .bbr7 zz rr => [0x7F, zz, rr]
  | .bra rr => [0x80, rr]
  | .staIndX zz => [0x81, zz]
  | .clx => [0x82]
  | .tstImmZp nn zz => [0x83, nn, zz]
  | .styZp zz => [0x84, zz]
  | .staZp zz => [0x85, zz]
  | .stxZp zz => [0x86, zz]
  | .smb0 zz => [0x87, zz]
  | .dey => [0x88]
  | .bitImm nn => [0x89, nn]
  | .txa => [0x8A]
  | .styAbs hhll => [0x8C, loByte hhll, hiByte hhll]
  | .staAbs hhll => [0x8D, loByte hhll, hiByte hhll]
  | .stxAbs hhll => [0x8E, loByte hhll, hiByte hhll]
  | .bbs0 zz rr => [0x8F, zz, rr]
  | .bcc rr => [0x90, rr]
  | .staIndY zz => [0x91, zz]
  | .staInd zz => [0x92, zz]
  | .tstImmAbs nn hhll => [0x93, nn, loByte hhll, hiByte hhll]
  | .styZpX zz => [0x94, zz]
  | .staZpX zz => [0x95, zz]
  | .stxZpY zz => [0x96, zz]
  | .smb1 zz => [0x97, zz]
  | .tya => [0x98]
  | .staAbsY hhll => [0x99, loByte hhll, hiByte hhll]
  | .txs => [0x9A]
  | .stzAbs hhll => [0x9C, loByte hhll, hiByte hhll]
  | .staAbsX hhll => [0x9D, loByte hhll, hiByte hhll]
  | .stzAbsX hhll => [0x9E, loByte hhll, hiByte hhll]
  | .bbs1 zz rr => [0x9F, zz, rr]
  | .ldyImm nn => [0xA0, nn]
  | .ldaIndX zz => [0xA1, zz]
  | .ldxImm nn => [0xA2, nn]
  | .tstImmZpX nn zz => [0xA3, nn, zz]
  | .ldyZp zz => [0xA4, zz]
  | .ldaZp zz => [0xA5, zz]
  | .ldxZp zz => [0xA6, zz]
  | .smb2 zz => [0xA7, zz]
  | .tay => [0xA8]
  | .ldaImm nn => [0xA9, nn]
  | .tax => [0xAA]
  | .ldyAbs hhll => [0xAC, loByte hhll, hiByte hhll]
  | .ldaAbs hhll => [0xAD, loByte hhll, hiByte hhll]
  | .ldxAbs hhll => [0xAE, loByte hhll, hiByte hhll]
  | .bbs2 zz rr => [0xAF, zz, rr]
  | .bcs rr => [0xB0, rr]
  | .ldaIndY zz => [0xB1, zz]
  | .ldaInd zz => [0xB2, zz]
  | .tstImmAbsX nn hhll => [0xB3, nn, loByte hhll, hiByte hhll]
  | .ldyZpX zz => [0xB4, zz]
  | .ldaZpX zz => [0xB5, zz]
  | .ldxZpY zz => [0xB6, zz]
  | .smb3 zz => [0xB7, zz]
  | .clv => [0xB8]
  | .ldaAbsY hhll => [0xB9, loByte hhll, hiByte hhll]
  | .tsx => [0xBA]
  | .ldyAbsX hhll => [0xBC, loByte hhll, hiByte hhll]
  | .ldaAbsX hhll => [0xBD, loByte hhll, hiByte hhll]
  | .ldxAbsY hhll => [0xBE, loByte hhll, hiByte hhll]
  | .bbs3 zz rr => [0xBF, zz, rr]
  | .cpyImm nn => [0xC0, nn]
  | .cmpIndX zz => [0xC1, zz]
  | .cly => [0xC2]
  | .tdd src dst len => [0xC3, loByte src, hiByte src, loByte dst, hiByte dst, loByte len, hiByte len]
  | .cpyZp zz => [0xC4, zz]
  | .cmpZp zz => [0xC5, zz]
  | .decZp zz => [0xC6, zz]
  | .smb4 zz => [0xC7, zz]
  | .iny => [0xC8]
  | .cmpImm nn => [0xC9, nn]
  | .dex => [0xCA]
  | .wai => [0xCB]
  | .cpyAbs hhll => [0xCC, loByte hhll, hiByte hhll]
  | .cmpAbs hhll => [0xCD, loByte hhll, hiByte hhll]
  | .decAbs hhll => [0xCE, loByte hhll, hiByte hhll]
  | .bbs4 zz rr => [0xCF, zz, rr]
  | .bne rr => [0xD0, rr]
  | .cmpIndY zz => [0xD1, zz]
  | .cmpInd zz => [0xD2, zz]
  | .tin src dst len => [0xD3, loByte src, hiByte src, loByte dst, hiByte dst, loByte len, hiByte len]
  | .csh => [0xD4]
  | .cmpZpX zz => [0xD5, zz]
  | .decZpX zz => [0xD6, zz]
  | .smb5 zz => [0xD7, zz]
  | .cld => [0xD8]
  | .cmpAbsY hhll => [0xD9, loByte hhll, hiByte hhll]
  | .phx => [0xDA]
  | .stp => [0xDB]
  | .cmpAbsX hhll => [0xDD, loByte hhll, hiByte hhll]
  | .decAbsX hhll => [0xDE, loByte hhll, hiByte hhll]
  | .bbs5 zz rr => [0xDF, zz, rr]
  | .cpxImm nn => [0xE0, nn]
  | .sbcIndX zz => [0xE1, zz]
  | .tia src dst len => [0xE3, loByte src, hiByte src, loByte dst, hiByte dst, loByte len, hiByte len]
  | .cpxZp zz => [0xE4, zz]
  | .sbcZp zz => [0xE5, zz]
  | .incZp zz => [0xE6, zz]
  | .smb6 zz => [0xE7, zz]
  | .inx => [0xE8]
  | .sbcImm nn => [0xE9, nn]
  | .nop => [0xEA]
  | .cpxAbs hhll => [0xEC, loByte hhll, hiByte hhll]
  | .sbcAbs hhll => [0xED, loByte hhll, hiByte hhll]
  | .incAbs hhll => [0xEE, loByte hhll, hiByte hhll]
  | .bbs6 zz rr => [0xEF, zz, rr]
  | .beq rr => [0xF0, rr]
  | .sbcIndY zz => [0xF1, zz]
  | .sbcInd zz => [0xF2, zz]
  | .tai src dst len => [0xF3, loByte src, hiByte src, loByte dst, hiByte dst, loByte len, hiByte len]
  | .set => [0xF4]
  | .sbcZpX zz => [0xF5, zz]
  | .incZpX zz => [0xF6, zz]
  | .smb7 zz => [0xF7, zz]
  | .sed => [0xF8]
  | .sbcAbsY hhll => [0xF9, loByte hhll, hiByte hhll]
  | .plx => [0xFA]
  | .sbcAbsX hhll => [0xFD, loByte hhll, hiByte hhll]
  | .incAbsX hhll => [0xFE, loByte hhll, hiByte hhll]
  | .bbs7 zz rr => [0xFF, zz, rr]
  | .undefined op => [op]

/-! ### The host's decoding of one table word -/

/-- The bytes of an instruction word whose first `nbits` bits are those of w and the rest 0, byte 0 the
least significant, up to the longest instruction (30_encoding.md R131). -/
def wordBytes (nbits w : Nat) : List Byte :=
  (List.range 7).map fun k => BitVec.ofNat 8 ((w % 2 ^ nbits) / 256 ^ k)

/-- The instruction the decoder reads from such a word. -/
def decodeTableWord (nbits w : Nat) : Option Instr :=
  match decode (wordBytes nbits w) with
  | .ok r => some r.1
  | .error _ => none

end Sys2Proof
end

