-- ==== Sys2Proof/Machine/Render.lean ====
section
/-! DEFINITION. The scanline renderer (61_video.md R545-R556). -/

namespace Sys2Proof.Machine

/-- Colour number from the four plane bits (61_video.md R547). -/
def planeColour (p0 p1 p2 p3 : Bool) : Nat :=
  p0.toNat + 2 * p1.toNat + 4 * p2.toNat + 8 * p3.toNat

/-- Background map width in tiles (61_video.md R503, MWR bits 5-4). -/
def Vdc.mapWidth (v : Vdc) : Nat :=
  match (v.mwr.extractLsb' 4 2).toNat with
  | 0 => 32
  | 1 => 64
  | _ => 128

/-- Background map height in tiles (61_video.md R503, MWR bit 6). -/
def Vdc.mapHeight (v : Vdc) : Nat := if v.mwr.getLsbD 6 then 64 else 32

/-- Colour of column c, row r of tile t (61_video.md R547). -/
def Vdc.tileColour (p : Params) (v : Vdc) (t r c : Nat) : Nat :=
  let w01 := v.vramAt p (t * 16 + r)
  let w23 := v.vramAt p (t * 16 + 8 + r)
  planeColour (w01.getLsbD (7 - c)) (w01.getLsbD (15 - c)) (w23.getLsbD (7 - c))
    (w23.getLsbD (15 - c))

/-- The background colour index at screen column x of a line with record s; none is transparent
(61_video.md R545, R546, R548). -/
def Vdc.bgPixel (p : Params) (v : Vdc) (s : Snapshot) (x : Nat) : Option Nat :=
  if s.bb then
    let px := (s.bxr.toNat + x) % (v.mapWidth * 8)
    let py := s.bgY.toNat % (v.mapHeight * 8)
    let e := v.vramAt p ((py / 8) * v.mapWidth + px / 8)
    let k := v.tileColour p (e.extractLsb' 0 12).toNat (py % 8) (px % 8)
    if k = 0 then none else some ((e.extractLsb' 12 4).toNat * 16 + k)
  else none

/-- One SAT entry (61_video.md R549). -/
structure Sprite where
  index : Nat
  y : Nat
  x : Nat
  pattern : Nat
  palette : Nat
  /-- SPBG: in front of the background -/
  front : Bool
  width : Nat
  height : Nat
  xFlip : Bool
  yFlip : Bool
deriving DecidableEq, Repr

/-- SAT entry j (61_video.md R549). -/
def Vdc.sprite (v : Vdc) (j : Nat) : Sprite :=
  let w0 := Store.get 0 v.sat (4 * j)
  let w1 := Store.get 0 v.sat (4 * j + 1)
  let w2 := Store.get 0 v.sat (4 * j + 2)
  let w3 := Store.get 0 v.sat (4 * j + 3)
  { index := j
    y := (w0.extractLsb' 0 10).toNat
    x := (w1.extractLsb' 0 10).toNat
    pattern := (w2.extractLsb' 1 10).toNat
    palette := (w3.extractLsb' 0 4).toNat
    front := w3.getLsbD 7
    width := if w3.getLsbD 8 then 32 else 16
    height :=
      match (w3.extractLsb' 12 2).toNat with
      | 0 => 16
      | 1 => 32
      | _ => 64
    xFlip := w3.getLsbD 11
    yFlip := w3.getLsbD 15 }

/-- Whether a sprite covers active row y: `Y - 64 <= y < Y - 64 + height` (61_video.md R552). -/
def Sprite.covers (e : Sprite) (y : Nat) : Bool :=
  decide (e.y ≤ y + 64) && decide (y + 64 < e.y + e.height)

/-- Sprite selection for a row: the entries drawn and whether the row overflowed (61_video.md R552). -/
def selectSprites (y : Nat) : List Sprite → Nat → List Sprite × Bool
  | [], _ => ([], false)
  | e :: es, cells =>
    if e.covers y then
      if 16 < cells + e.width / 16 then ([], true)
      else
        let r := selectSprites y es (cells + e.width / 16)
        (e :: r.1, r.2)
    else selectSprites y es cells

/-- The first pattern of a sprite: `pn & ~wmask & ~hmask` (61_video.md R550). -/
def Sprite.basePattern (e : Sprite) : Nat :=
  let wmask := if e.width = 32 then 1#10 else 0#10
  let hmask := if e.height = 16 then 0#10 else if e.height = 32 then 2#10 else 6#10
  (BitVec.ofNat 10 e.pattern &&& ~~~wmask &&& ~~~hmask).toNat

/-- Colour of pixel (row r, column c) of sprite pattern n (61_video.md R551). -/
def Vdc.patternColour (p : Params) (v : Vdc) (n r c : Nat) : Nat :=
  planeColour ((v.vramAt p (n * 64 + r)).getLsbD (15 - c))
    ((v.vramAt p (n * 64 + 16 + r)).getLsbD (15 - c))
    ((v.vramAt p (n * 64 + 32 + r)).getLsbD (15 - c))
    ((v.vramAt p (n * 64 + 48 + r)).getLsbD (15 - c))

/-- Colour number of a covering sprite at active row y, screen column x; 0 is transparent or outside
(61_video.md R549-R551). -/
def Vdc.spriteColour (p : Params) (v : Vdc) (e : Sprite) (y x : Nat) : Nat :=
  if e.x ≤ x + 32 ∧ x + 32 < e.x + e.width then
    let col := if e.xFlip then e.width - 1 - (x + 32 - e.x) else x + 32 - e.x
    let row := if e.yFlip then e.height - 1 - (y + 64 - e.y) else y + 64 - e.y
    v.patternColour p (e.basePattern + col / 16 + 2 * (row / 16)) (row % 16) (col % 16)
  else 0

/-- The sprite pixel shown at a column: SPBG and colour index of the first selected sprite that is not
transparent there (61_video.md R554). -/
def Vdc.spritePixel (p : Params) (v : Vdc) (y x : Nat) : List Sprite → Option (Bool × Nat)
  | [] => none
  | e :: es =>
    let k := v.spriteColour p e y x
    if k = 0 then Vdc.spritePixel p v y x es else some (e.front, 256 + e.palette * 16 + k)

/-- Whether entry 0 and another selected sprite are both opaque at a column of the display (61_video.md
R553; columns 0 .. W-1, DEDUCED, log 10). -/
def Vdc.collides (p : Params) (v : Vdc) (y : Nat) (sel : List Sprite) : Bool :=
  (List.range v.width).any fun x =>
    (sel.any fun e => e.index = 0 && v.spriteColour p e y x ≠ 0) &&
      (sel.any fun e => e.index ≠ 0 && v.spriteColour p e y x ≠ 0)

/-- The palette index composed at a column (61_video.md R555). -/
def composeIndex (s : Option (Bool × Nat)) (b : Option Nat) : Nat :=
  match s, b with
  | some (front, i), some j => if front then i else j
  | some (_, i), none => i
  | none, some j => j
  | none, none => 0

/-- The row of colours of active row y (61_video.md R555). -/
def Vdc.renderRow (p : Params) (pal : Store (BitVec 9)) (v : Vdc) (s : Snapshot) (y : Nat)
    (sel : List Sprite) : Row :=
  (List.range v.width).map fun x =>
    Store.get 0 pal (composeIndex (v.spritePixel p y x sel) (v.bgPixel p s x))

/-- RenderLine: overflow and collision events, then the row into Frame (61_video.md R552-R556; the row
is replaced whole, DEDUCED, log 9). -/
def Vdc.renderLine (p : Params) (pal : Store (BitVec 9)) (l : Nat) (v : Vdc) : Vdc × Bool :=
  let s := Store.get default v.snap l
  let y := l - v.activeStart
  let sel := if s.sb then selectSprites y ((List.range 64).map v.sprite) 0 else ([], false)
  let r := vdcThen (v.raiseIf sel.2 .overflow) fun w =>
    w.raiseIf (v.collides p y sel.1) .collision
  ({ r.1 with frame := Store.set [] r.1.frame y (v.renderRow p pal s y sel.1) }, r.2)

end Sys2Proof.Machine
end

