-- ==== Sys2Proof/Machine/Scan.lean ====
section
/-! DEFINITION. Scanline timing: line events and the VDC's device advance (61_video.md R535-R541). -/

namespace Sys2Proof.Machine

/-- BgY at the start of line l (61_video.md R539, R541). -/
def Vdc.stepBgY (p : Params) (l : Nat) (v : Vdc) : Vdc :=
  if l = v.activeStart then { v with bgY := v.byr.extractLsb' 0 9 }
  else if v.isActive p l then { v with bgY := v.bgY + 1 }
  else v

/-- Raster compare at the start of line l (61_video.md R538). -/
def Vdc.rasterCompare (p : Params) (l : Nat) (v : Vdc) : Vdc × Bool :=
  v.raiseIf (decide (v.rasterCount p l = (v.rcr.extractLsb' 0 10).toNat)) .raster

/-- Vertical blank at the start of line l: raise VD, then the SAT DMA if armed (61_video.md R537). -/
def Vdc.verticalBlank (p : Params) (l : Nat) (v : Vdc) : Vdc × Bool :=
  if l = v.vbLine p then vdcThen (v.raise .vblank) (fun w => w.satDma p) else (v, false)

/-- StartOfLine (61_video.md R539). -/
def Vdc.startOfLine (p : Params) (l : Nat) (v : Vdc) : Vdc × Bool :=
  let v1 := if l = 0 then { v with lastFrame := v.frame } else v
  vdcThen ((v1.stepBgY p l).rasterCompare p l) (fun w => w.verticalBlank p l)

/-- The record taken at the end of a line (61_video.md R539, R540). -/
def Vdc.record (v : Vdc) : Snapshot :=
  { bxr := v.bxr.extractLsb' 0 10, bgY := v.bgY, sb := v.cr.getLsbD 6, bb := v.cr.getLsbD 7 }

/-- EndOfLine (61_video.md R539). -/
def Vdc.endOfLine (p : Params) (pal : Store (BitVec 9)) (l : Nat) (v : Vdc) : Vdc × Bool :=
  if v.isActive p l then
    Vdc.renderLine p pal l { v with snap := Store.set default v.snap l v.record }
  else (v, false)

/-- One pass of the loop of 61_video.md R535, less the clock: end the line, start the next. -/
def Vdc.nextLine (p : Params) (pal : Store (BitVec 9)) (v : Vdc) : Vdc × Bool :=
  vdcThen (v.endOfLine p pal v.line) fun w =>
    let l := (w.line + 1) % p.linesPerFrame
    Vdc.startOfLine p l { w with line := l }

/-- n passes of the loop. -/
def Vdc.nextLines (p : Params) (pal : Store (BitVec 9)) : Nat → Vdc → Vdc × Bool
  | 0, v => (v, false)
  | n + 1, v => vdcThen (v.nextLine p pal) (Vdc.nextLines p pal n)

/-- VdcAdvance by m master clocks (61_video.md R535); the loop's passes are counted by the quotient
(DEDUCED, log 18). -/
def Vdc.advance (p : Params) (pal : Store (BitVec 9)) (m : Nat) (v : Vdc) : Vdc × Bool :=
  Vdc.nextLines p pal ((v.clock + m) / 1365) { v with clock := (v.clock + m) % 1365 }

end Sys2Proof.Machine
end

