-- ==== Sys2Proof/Machine/Time.lean ====
section
/-! DEFINITION. The device advance that follows every step (60_exceptions.md R420, R425). -/

namespace Sys2Proof.Machine

/-- Master clocks per CPU cycle (60_exceptions.md R420). -/
def Speed.clocks : Speed → Nat
  | .high => 3
  | .low => 12

/-- The timer's part of the advance (60_exceptions.md R426). -/
def State.timerAdvance (mc : Nat) (s : State) : State :=
  let r := s.timer.advance mc
  { s with timer := r.1, irq := s.irq.raise 2 r.2 }

/-- The sound collaborator's part: a drawn interrupt_raised requests IRQ2 (60_exceptions.md R415, log
13). -/
def State.psgTick (s : State) : State :=
  let r := s.draw Config.psgRaises
  { r.2 with irq := s.irq.raise 0 r.1 }

/-- The VDC's part (61_video.md R535). -/
def State.vdcAdvance (m : Nat) (s : State) : State :=
  s.vdcAct (s.vdc.advance s.params s.vce.palette m)

/-- Advance(c) for c CPU cycles at the speed in force (60_exceptions.md R425). -/
def State.advance (c : Nat) (s : State) : State :=
  let mc := c * s.cpu.speed.clocks
  let m := match s.params.vdcTimeUnit with
    | .master => mc
    | .rawCycles => 3 * c
  ((s.timerAdvance mc).psgTick).vdcAdvance m

end Sys2Proof.Machine
end

