-- ==== Sys2Proof/Machine/Fetch.lean ====
section
/-! DEFINITION. Fetching an instruction, the idle step, and placing an instruction where the next step
fetches (30_encoding.md R137, 60_exceptions.md R406, R460). -/

namespace Sys2Proof.Machine

/-- Fetch the opcode, then the operand bytes its layout names, and build the instruction; PC is left at the
next instruction (30_encoding.md R137, 10_state.md R38). -/
def fetchInstr (s : State) : Instr × State :=
  let op := fetch s
  let bs := fetchBytes (formatOf op.1).operandLen op.2
  ((formatOf op.1).build bs.1, bs.2)

/-- The idle step of a waiting or stopped CPU: devices advance by IDLE_STEP_CYCLES, 0 is returned
(60_exceptions.md R406). -/
def idleStep (s : State) : State :=
  State.advance s.params.idleStepCycles { s with cycles := 0 }

/-- The interrupt step: entry, then the device advance (60_exceptions.md R405, R460). -/
def interruptStep (src : Source) (s : State) : State :=
  let t := interruptEntry src s
  t.advance t.cycles

/-- Whether a place holds plain bytes that a loader can put there. -/
def Place.isStorage : Place → Bool
  | .rom _ | .wram _ | .cart _ | .store _ => true
  | .port _ | .unmapped => false

/-- Put a byte where a place keeps it, ROM included: a load from outside, no bus write (60_exceptions.md
R440). -/
def State.placeByte (s : State) (pl : Place) (b : Byte) : State :=
  match pl with
  | .rom k => { s with rom := s.rom.set k b }
  | .wram k => { s with wram := s.wram.set k b }
  | .cart k => { s with cartRam := s.cartRam.set k b }
  | .store o => { s with fallback := s.fallback.set o b }
  | .port _ => s
  | .unmapped => s

/-- Put bytes at logical addresses from a on. -/
def State.placeBytes : List Byte → Word → State → State
  | [], _, s => s
  | b :: bs, a, s => State.placeBytes bs (a + 1) (s.placeByte (s.place a) b)

/-- Whether the n addresses from a on are all plain storage. -/
def State.storageFrom (s : State) : Nat → Word → Bool
  | 0, _ => true
  | n + 1, a => (s.place a).isStorage && State.storageFrom s n (a + 1)

/-- Make the next step a fetch: Running, no interrupt to take first, and storage at PC. Nothing changes
where that already holds, as in the state after reset (log 24). -/
def State.readyToFetch (s : State) : State :=
  let s1 := if s.cpu.runState = .running then s
    else { s with cpu := { s.cpu with runState := .running } }
  let s2 := if s1.cpu.afterSet || (chosen s1).isNone then s1
    else { s1 with cpu := { s1.cpu with nmiPending := false }, irq := { s1.irq with req := 0 } }
  if s2.storageFrom 7 s2.cpu.pc then s2
  else
    { s2 with
      cpu := { s2.cpu with pc := 0xE000 }
      mpr := s2.mpr.set 7 0x00 }

end Sys2Proof.Machine
end

