-- ==== Sys2Proof/Machine/Step.lean ====
section
/-! DEFINITION. One step, `tick()` (60_exceptions.md R460), and the placing of one instruction where the
next step fetches it. -/

namespace Sys2Proof.Machine

/-- The instruction step: fetch, the decoded instruction's meaning, the device advance by its cost. -/
def instrStep (s : State) : Host.Outcome State Fault Refusal :=
  let f := fetchInstr s
  match exec f.1 f.2 with
  | .next t => .next (t.advance t.cycles)
  | .fault r => .fault r
  | .refused r => .refused r

/-- One step (60_exceptions.md R460). Its return value is `cycles` of the next state (log 6). -/
def step (s : State) : Host.Outcome State Fault Refusal :=
  let s0 := { s with psgWrites := [] }
  match s.cpu.runState, chosen s0 with
  | .stopped, _ => .next (idleStep s0)
  | .waiting, none => .next (idleStep s0)
  | _, c =>
    let s1 := { s0 with cpu := { s0.cpu with runState := .running } }
    match s1.cpu.afterSet, c with
    | false, some src => .next (interruptStep src s1)
    | _, _ => instrStep s1

/-- The state with an instruction's bytes stored where the next step fetches them. -/
def State.withFetchWord (s : State) (nbits w : Nat) : State :=
  let t := s.readyToFetch
  State.placeBytes (wordBytes nbits w) t.cpu.pc t

end Sys2Proof.Machine
end

