-- ==== Sys2Proof/Machine/HostPort.lean ====
section
/-! DEFINITION. What the host can do between two steps: load, reset, inject NMI or a request, take the
frame (60_exceptions.md R440, 70_reset_and_hazards.md R600-R607; log 15). None of it is part of `step`. -/

namespace Sys2Proof.Machine

/-! ### Reset -/

/-- The CPU after reset; u gives the values R603 leaves unspecified. -/
def resetCpu (u : Nat → Word) : Cpu where
  a := loByte (u 0)
  x := loByte (u 1)
  y := loByte (u 2)
  sp := loByte (u 3)
  pc := 0
  p :=
    { n := (u 4).getLsbD 0, v := (u 5).getLsbD 0, t := false, d := false, i := true
      z := (u 6).getLsbD 0, c := (u 7).getLsbD 0 }
  runState := .running
  speed := .low
  afterSet := false
  nmiPending := false

/-- MPR[i] after reset, i below 7: BOOT_MAP's page id if it gives one (70_reset_and_hazards.md R605). -/
def resetMpr (p : Params) (u : Nat → Word) (i : Nat) : Byte :=
  match p.bootMap with
  | some m => m.getD i (loByte (u (8 + i)))
  | none => loByte (u (8 + i))

/-- The VDC after reset: status, SAT DMA pending, position and DMA counters 0; VdcAR, VdcWLatch, the
memories and the buffers stay, the registers are unspecified (61_video.md R508, 70_reset_and_hazards.md
R600-R603; log 14). -/
def Vdc.resetFrom (v : Vdc) (u : Nat → Word) : Vdc :=
  { v with
    st := 0, satPending := false, clock := 0, line := 0, vramDmaCount := 0, satDmaCount := 0
    lastDmaSrc := 0, lastDmaDst := 0, lastDmaLen := 0
    mawr := u 15, marr := u 16, cr := u 17, rcr := u 18, bxr := u 19, byr := u 20, mwr := u 21
    hsr := u 22, hdr := u 23, vpr := u 24, vdw := u 25, vcr := u 26, dcr := u 27, sour := u 28
    desr := u 29, lenr := u 30, dvssr := u 31, rLatch := u 32, bgY := (u 33).extractLsb' 0 9 }

/-- Bytes written from a stack address on, S stepping up (70_reset_and_hazards.md R607). -/
def primeStack : List Byte → Byte → State → State
  | [], _, s => s
  | b :: bs, sp, s => primeStack bs (sp + 1) (memWrite (stackAddr sp) b s)

/-- BOOT_STACK_PRIME (70_reset_and_hazards.md R607). The rule says that BOOT_MAP must then map slot 1 to
RAM; the model neither asks nor checks it, and writes through whatever MPR[1] holds (DESIGN CHOICE,
log 29). -/
def bootPrime (s : State) : State :=
  match s.params.bootStackPrime with
  | some (s0, bytes) => primeStack bytes (s0 + 1) (s.setSp s0)
  | none => s

/-- The reset sequence (70_reset_and_hazards.md R600); u gives the values R603 leaves unspecified. -/
def resetSequence (u : Nat → Word) (s : State) : State :=
  let p := s.params
  let s1 := bootPrime
    { s with
      cpu := resetCpu u
      mpr := #v[resetMpr p u 0, resetMpr p u 1, resetMpr p u 2, resetMpr p u 3, resetMpr p u 4,
        resetMpr p u 5, resetMpr p u 6, p.bootBank]
      irq := { mask := (u 34).extractLsb' 0 3, req := 0 }
      timer :=
        { reload := (u 35).extractLsb' 0 7, counter := (u 36).extractLsb' 0 7, prescale := 0
          enabled := false }
      pad := { sel := (u 37).getLsbD 0, clr := (u 38).getLsbD 0 }
      vdc := s.vdc.resetFrom u
      vce := { s.vce with cr := loByte (u 39), cta := (u 40).extractLsb' 0 9 }
      cycles := 0
      psgWrites := [] }
  let v := read16 0xFFFE s1
  v.2.setPc v.1

/-- The host's `reset()` of a running machine: what R603 leaves unspecified is drawn (log 14). -/
def hostReset (s : State) : State :=
  resetSequence (fun k => Config.resetValue (s.draws + k)) { s with draws := s.draws + 41 }

/-! ### Load (60_exceptions.md R440) -/

/-- Why a cartridge image is rejected at load time. -/
inductive LoadError where
  /-- fewer bytes than one ROM bank (70_reset_and_hazards.md R606) -/
  | zeroRomBanks
  /-- BOOT_BANK is no ROM page (70_reset_and_hazards.md R604) -/
  | bootBankNotRom
deriving DecidableEq, Repr

/-- A byte memory holding a list of bytes from key k on. -/
def Memory.ofBytes : List Byte → Nat → Memory
  | [], _ => []
  | b :: bs, k =>
    if b = unlistedByte then Memory.ofBytes bs (k + 1) else (k, b) :: Memory.ofBytes bs (k + 1)

/-- The machine before its first reset, memories as at power-on (70_reset_and_hazards.md R602). -/
def beforeReset (p : Params) (image : List Byte) : State :=
  { State.reset with params := p, rom := Memory.ofBytes image 0 }

/-- Load an image and power on; u gives the values R603 leaves unspecified (60_exceptions.md R440,
70_reset_and_hazards.md R604, R606). The spec does not say what a partial bank at the end of an image is:
ROM_BANKS is the number of whole banks, an image shorter than one bank is refused, and the bytes of a
partial bank are kept in ROM (DESIGN CHOICE, log 31). -/
def powerOn (u : Nat → Word) (p : Params) (image : List Byte) : Except LoadError State :=
  if image.length < 8192 then .error .zeroRomBanks
  else if 0x80 ≤ p.bootBank.toNat then .error .bootBankNotRom
  else .ok (resetSequence u (beforeReset { p with romBanks := image.length / 8192 } image))

/-! ### Injection and output (60_exceptions.md R407, R417, R440) -/

/-- Inject NMI. -/
def injectNmi (s : State) : State := { s with cpu := { s.cpu with nmiPending := true } }

/-- Inject Timer, IRQ1 or IRQ2 as its device would. -/
def injectIrq (src : Source) (s : State) : State :=
  match src with
  | .timer => { s with irq := s.irq.raise 2 true }
  | .irq1 => { s with irq := s.irq.raise 1 true }
  | .irq2 => { s with irq := s.irq.raise 0 true }
  | .nmi => injectNmi s
  | .brk => s

/-- take_frame(): the last completed frame; no state changes (61_video.md R556). -/
def takeFrame (s : State) : Store Row := s.vdc.lastFrame

end Sys2Proof.Machine
end

