-- ==== Sys2Proof/Safety.lean ====
section
/-! DEFINITION. What counts as a good state, in the terms the statements use. -/

namespace Sys2Proof.Machine

/-- The VDC's storage is canonical and inside its sizes (61_video.md R505, R507). -/
def Vdc.memOk (p : Params) (v : Vdc) : Bool :=
  Store.wf 0 v.vram && Store.below p.vramWords v.vram && Store.wf 0 v.sat && Store.below 256 v.sat
    && Store.wf default v.snap && Store.wf [] v.frame && Store.wf [] v.lastFrame

/-- The palette is canonical and inside its size (10_state.md R50). -/
def Vce.memOk (v : Vce) : Bool := Store.wf 0 v.palette && Store.below 512 v.palette

/-- Every memory of the machine is in canonical form, and those a step can write are inside their sizes
(log 3; 10_state.md R48-R50; CART_RAM_SIZE = 0 is log 28). -/
def State.memOk (s : State) : Bool :=
  s.rom.wf && s.wram.wf && s.cartRam.wf && s.fallback.wf
    && Store.below 8192 s.wram && Store.below 8192 s.fallback
    && (s.params.cartRamSize == 0 || Store.below s.params.cartRamSize s.cartRam)
    && s.vdc.memOk s.params && s.vce.memOk

/-- The counters are in their ranges between two steps (10_state.md R46, R51). -/
def State.timeOk (s : State) : Bool :=
  decide (s.timer.prescale < 3072) && decide (s.vdc.clock < 1365)
    && decide (s.vdc.line < s.params.linesPerFrame)

/-- AfterSet equals P.T at an instruction boundary (10_state.md R42). -/
def State.boundaryOk (s : State) : Bool := s.cpu.afterSet == s.cpu.p.t

/-- The invariant of a machine between two steps. -/
def State.inv (s : State) : Bool := s.memOk && s.timeOk && s.boundaryOk

/-- A step completes: no fault, no refusal (60_exceptions.md R400). -/
def Completes (s : State) : Prop := ∃ t, step s = .next t

/-! ### What a step may touch -/

/-- Every byte of every memory reads as before. -/
def MemoryKept (s t : State) : Prop := ∀ pl : Place, t.byteAt pl = s.byteAt pl

/-- Every byte of every memory reads as before, but for the listed places. -/
def MemoryKeptBut (pls : List Place) (s t : State) : Prop :=
  ∀ pl : Place, pl ∉ pls → t.byteAt pl = s.byteAt pl

/-- Reads alone lead from s to t: only what a device read changes may differ, and the draw counter
(20_memory.md R100). -/
def ReadsOnly (s t : State) : Prop :=
  t =
    { s with
      vdc := { s.vdc with st := t.vdc.st, marr := t.vdc.marr, rLatch := t.vdc.rLatch }
      vce := { s.vce with cta := t.vce.cta }
      draws := t.draws }

/-- Slot 1 maps work RAM, so the zero page and the stack are RAM (20_memory.md R76, R82). -/
def State.slot1InRam (s : State) : Bool :=
  decide (s.mpr[1] ∈ s.params.wramPages) && decide (0x80 ≤ s.mpr[1].toNat)
    && decide (s.mpr[1] ≠ 0xF7) && decide (s.mpr[1] ≠ 0xFF)

/-- The number of a VDC register in the table of 61_video.md R501. -/
def VdcReg.number : VdcReg → Nat
  | .mawr => 0x00
  | .marr => 0x01
  | .cr => 0x05
  | .rcr => 0x06
  | .bxr => 0x07
  | .byr => 0x08
  | .mwr => 0x09
  | .hsr => 0x0A
  | .hdr => 0x0B
  | .vpr => 0x0C
  | .vdw => 0x0D
  | .vcr => 0x0E
  | .dcr => 0x0F
  | .sour => 0x10
  | .desr => 0x11
  | .lenr => 0x12
  | .dvssr => 0x13

/-- t is v with w in register r: every other register and all else is as in v. -/
def Vdc.RegisterSet (v : Vdc) (r : VdcReg) (w : Word) (t : Vdc) : Prop :=
  (∀ q : VdcReg, t.reg q = if q = r then w else v.reg q) ∧
    t =
      { v with
        mawr := t.mawr, marr := t.marr, cr := t.cr, rcr := t.rcr, bxr := t.bxr, byr := t.byr
        mwr := t.mwr, hsr := t.hsr, hdr := t.hdr, vpr := t.vpr, vdw := t.vdw, vcr := t.vcr
        dcr := t.dcr, sour := t.sour, desr := t.desr, lenr := t.lenr, dvssr := t.dvssr }

/-- The value of a packed-BCD byte (41_alu.md R202). -/
def bcdValue (b : Byte) : Nat := b.toNat / 16 * 10 + b.toNat % 16

/-! ### Operand forms, as the instruction rules list them -/

/-- The opcodes of a list of forms (30_encoding.md R130). -/
def opcodes {α : Type} (l : List (Instr × α)) : List Byte := l.map fun f => (encode f.1).headD 0

/-- The nine operand forms of LDA, CMP and the accumulator operations (41_alu.md R206). -/
def nineForms (imm zp zpX ind indX indY : Byte → Instr) (abs absX absY : Word → Instr) (nn zz : Byte)
    (hhll : Word) : List (Instr × Operand) :=
  [(imm nn, .imm nn), (zp zz, .mem (.zp zz)), (zpX zz, .mem (.zpX zz)), (ind zz, .mem (.ind zz)),
    (indX zz, .mem (.indX zz)), (indY zz, .mem (.indY zz)), (abs hhll, .mem (.abs hhll)),
    (absX hhll, .mem (.absX hhll)), (absY hhll, .mem (.absY hhll))]

/-- LDA (40_load_store.md R161). -/
def ldaForms : Byte → Byte → Word → List (Instr × Operand) :=
  nineForms .ldaImm .ldaZp .ldaZpX .ldaInd .ldaIndX .ldaIndY .ldaAbs .ldaAbsX .ldaAbsY

/-- LDX (40_load_store.md R162). -/
def ldxForms (nn zz : Byte) (hhll : Word) : List (Instr × Operand) :=
  [(.ldxImm nn, .imm nn), (.ldxZp zz, .mem (.zp zz)), (.ldxZpY zz, .mem (.zpY zz)),
    (.ldxAbs hhll, .mem (.abs hhll)), (.ldxAbsY hhll, .mem (.absY hhll))]

/-- LDY (40_load_store.md R163). -/
def ldyForms (nn zz : Byte) (hhll : Word) : List (Instr × Operand) :=
  [(.ldyImm nn, .imm nn), (.ldyZp zz, .mem (.zp zz)), (.ldyZpX zz, .mem (.zpX zz)),
    (.ldyAbs hhll, .mem (.abs hhll)), (.ldyAbsX hhll, .mem (.absX hhll))]

/-- STA (40_load_store.md R164). -/
def staForms (zz : Byte) (hhll : Word) : List (Instr × Addr) :=
  [(.staZp zz, .zp zz), (.staZpX zz, .zpX zz), (.staInd zz, .ind zz), (.staIndX zz, .indX zz),
    (.staIndY zz, .indY zz), (.staAbs hhll, .abs hhll), (.staAbsX hhll, .absX hhll),
    (.staAbsY hhll, .absY hhll)]

/-- STX (40_load_store.md R165). -/
def stxForms (zz : Byte) (hhll : Word) : List (Instr × Addr) :=
  [(.stxZp zz, .zp zz), (.stxZpY zz, .zpY zz), (.stxAbs hhll, .abs hhll)]

/-- STY (40_load_store.md R166). -/
def styForms (zz : Byte) (hhll : Word) : List (Instr × Addr) :=
  [(.styZp zz, .zp zz), (.styZpX zz, .zpX zz), (.styAbs hhll, .abs hhll)]

/-- STZ (40_load_store.md R167). -/
def stzForms (zz : Byte) (hhll : Word) : List (Instr × Addr) :=
  [(.stzZp zz, .zp zz), (.stzZpX zz, .zpX zz), (.stzAbs hhll, .abs hhll),
    (.stzAbsX hhll, .absX hhll)]

/-- ADC (41_alu.md R206). -/
def adcForms : Byte → Byte → Word → List (Instr × Operand) :=
  nineForms .adcImm .adcZp .adcZpX .adcInd .adcIndX .adcIndY .adcAbs .adcAbsX .adcAbsY

/-- SBC (41_alu.md R207). -/
def sbcForms : Byte → Byte → Word → List (Instr × Operand) :=
  nineForms .sbcImm .sbcZp .sbcZpX .sbcInd .sbcIndX .sbcIndY .sbcAbs .sbcAbsX .sbcAbsY

/-- AND (41_alu.md R208). -/
def andForms : Byte → Byte → Word → List (Instr × Operand) :=
  nineForms .andImm .andZp .andZpX .andInd .andIndX .andIndY .andAbs .andAbsX .andAbsY

/-- ORA (41_alu.md R209). -/
def oraForms : Byte → Byte → Word → List (Instr × Operand) :=
  nineForms .oraImm .oraZp .oraZpX .oraInd .oraIndX .oraIndY .oraAbs .oraAbsX .oraAbsY

/-- EOR (41_alu.md R210). -/
def eorForms : Byte → Byte → Word → List (Instr × Operand) :=
  nineForms .eorImm .eorZp .eorZpX .eorInd .eorIndX .eorIndY .eorAbs .eorAbsX .eorAbsY

/-- The forms of an operation that T-mode can redirect (41_alu.md R204). -/
def AluOp.forms : AluOp → Byte → Byte → Word → List (Instr × Operand)
  | .adc => adcForms
  | .sbc => sbcForms
  | .and => andForms
  | .ora => oraForms
  | .eor => eorForms

/-- The immediate form of such an operation. -/
def AluOp.immForm : AluOp → Byte → Instr
  | .adc => .adcImm
  | .sbc => .sbcImm
  | .and => .andImm
  | .ora => .oraImm
  | .eor => .eorImm

/-- CMP (41_alu.md R211). -/
def cmpForms : Byte → Byte → Word → List (Instr × Operand) :=
  nineForms .cmpImm .cmpZp .cmpZpX .cmpInd .cmpIndX .cmpIndY .cmpAbs .cmpAbsX .cmpAbsY

/-- CPX (41_alu.md R212). -/
def cpxForms (nn zz : Byte) (hhll : Word) : List (Instr × Operand) :=
  [(.cpxImm nn, .imm nn), (.cpxZp zz, .mem (.zp zz)), (.cpxAbs hhll, .mem (.abs hhll))]

/-- CPY (41_alu.md R213). -/
def cpyForms (nn zz : Byte) (hhll : Word) : List (Instr × Operand) :=
  [(.cpyImm nn, .imm nn), (.cpyZp zz, .mem (.zp zz)), (.cpyAbs hhll, .mem (.abs hhll))]

/-- BIT (41_alu.md R214). -/
def bitForms (nn zz : Byte) (hhll : Word) : List (Instr × Operand) :=
  [(.bitImm nn, .imm nn), (.bitZp zz, .mem (.zp zz)), (.bitZpX zz, .mem (.zpX zz)),
    (.bitAbs hhll, .mem (.abs hhll)), (.bitAbsX hhll, .mem (.absX hhll))]

/-- TST with its mask (41_alu.md R215). -/
def tstForms (nn zz : Byte) (hhll : Word) : List (Instr × Addr) :=
  [(.tstImmZp nn zz, .zp zz), (.tstImmZpX nn zz, .zpX zz), (.tstImmAbs nn hhll, .abs hhll),
    (.tstImmAbsX nn hhll, .absX hhll)]

/-- The accumulator form of a read-modify-write operation (41_alu.md R218, R219, R224-R227). -/
def RmwOp.accForm : RmwOp → Instr
  | .inc => .incA
  | .dec => .decA
  | .asl => .aslA
  | .lsr => .lsrA
  | .rol => .rolA
  | .ror => .rorA

/-- The opcodes of a read-modify-write operation: A, zp, zp,X, abs, abs,X (41_alu.md R218, R219,
R224-R227). -/
def RmwOp.opcodes : RmwOp → List Byte
  | .inc => [0x1A, 0xE6, 0xF6, 0xEE, 0xFE]
  | .dec => [0x3A, 0xC6, 0xD6, 0xCE, 0xDE]
  | .asl => [0x0A, 0x06, 0x16, 0x0E, 0x1E]
  | .lsr => [0x4A, 0x46, 0x56, 0x4E, 0x5E]
  | .rol => [0x2A, 0x26, 0x36, 0x2E, 0x3E]
  | .ror => [0x6A, 0x66, 0x76, 0x6E, 0x7E]

/-- Four memory forms. -/
def fourForms (zp zpX : Byte → Instr) (abs absX : Word → Instr) (zz : Byte) (hhll : Word) :
    List (Instr × Addr) :=
  [(zp zz, .zp zz), (zpX zz, .zpX zz), (abs hhll, .abs hhll), (absX hhll, .absX hhll)]

/-- The memory forms of a read-modify-write operation (41_alu.md R218, R219, R224-R227). -/
def RmwOp.forms : RmwOp → Byte → Word → List (Instr × Addr)
  | .inc => fourForms .incZp .incZpX .incAbs .incAbsX
  | .dec => fourForms .decZp .decZpX .decAbs .decAbsX
  | .asl => fourForms .aslZp .aslZpX .aslAbs .aslAbsX
  | .lsr => fourForms .lsrZp .lsrZpX .lsrAbs .lsrAbsX
  | .rol => fourForms .rolZp .rolZpX .rolAbs .rolAbsX
  | .ror => fourForms .rorZp .rorZpX .rorAbs .rorAbsX

/-- What a read-modify-write operation computes from M and the carry c: the result r and the carry c',
as arithmetic (41_alu.md R218, R219, R224-R227). -/
def RmwOp.Computes (op : RmwOp) (m : Byte) (c : Bool) (r : Byte) (c' : Bool) : Prop :=
  match op with
  | .inc => r.toNat = (m.toNat + 1) % 256 ∧ c' = c
  | .dec => r.toNat = (m.toNat + 255) % 256 ∧ c' = c
  | .asl => r.toNat = 2 * m.toNat % 256 ∧ c' = decide (128 ≤ m.toNat)
  | .lsr => r.toNat = m.toNat / 2 ∧ c' = decide (m.toNat % 2 = 1)
  | .rol => r.toNat = (2 * m.toNat + c.toNat) % 256 ∧ c' = decide (128 ≤ m.toNat)
  | .ror => r.toNat = m.toNat / 2 + 128 * c.toNat ∧ c' = decide (m.toNat % 2 = 1)

/-- RMBi and SMBi with the bit and its new value (41_alu.md R228, R229). -/
def zpBitForms (zz : Byte) : List (Instr × Nat × Bool) :=
  [(.rmb0 zz, 0, false), (.rmb1 zz, 1, false), (.rmb2 zz, 2, false), (.rmb3 zz, 3, false),
    (.rmb4 zz, 4, false), (.rmb5 zz, 5, false), (.rmb6 zz, 6, false), (.rmb7 zz, 7, false),
    (.smb0 zz, 0, true), (.smb1 zz, 1, true), (.smb2 zz, 2, true), (.smb3 zz, 3, true),
    (.smb4 zz, 4, true), (.smb5 zz, 5, true), (.smb6 zz, 6, true), (.smb7 zz, 7, true)]

/-- BBRi and BBSi with the bit and the value that branches (42_control.md R270, R271). -/
def bitBranchForms (zz rr : Byte) : List (Instr × Nat × Bool) :=
  [(.bbr0 zz rr, 0, false), (.bbr1 zz rr, 1, false), (.bbr2 zz rr, 2, false),
    (.bbr3 zz rr, 3, false), (.bbr4 zz rr, 4, false), (.bbr5 zz rr, 5, false),
    (.bbr6 zz rr, 6, false), (.bbr7 zz rr, 7, false), (.bbs0 zz rr, 0, true),
    (.bbs1 zz rr, 1, true), (.bbs2 zz rr, 2, true), (.bbs3 zz rr, 3, true),
    (.bbs4 zz rr, 4, true), (.bbs5 zz rr, 5, true), (.bbs6 zz rr, 6, true),
    (.bbs7 zz rr, 7, true)]

/-- The conditional branches with the condition each tests (42_control.md R261-R268). -/
def branchForms (rr : Byte) (f : Flags) : List (Instr × Bool) :=
  [(.bpl rr, !f.n), (.bmi rr, f.n), (.bvc rr, !f.v), (.bvs rr, f.v), (.bcc rr, !f.c),
    (.bcs rr, f.c), (.bne rr, !f.z), (.beq rr, f.z)]

/-- The block transfers with the addresses of iteration k (44_block_transfer.md R340-R345). -/
def blockForms (e : E3Variant) (src dst len : Word) :
    List (Instr × (Nat → Word) × (Nat → Word)) :=
  [(.tii src dst len, fun k => src + BitVec.ofNat 16 k, fun k => dst + BitVec.ofNat 16 k),
    (.tdd src dst len, fun k => src - BitVec.ofNat 16 k, fun k => dst - BitVec.ofNat 16 k),
    (.tin src dst len, fun k => src + BitVec.ofNat 16 k, fun _ => dst),
    (.tia src dst len,
      match e with
      | .incAlt => (fun k => src + BitVec.ofNat 16 k, fun k => dst + BitVec.ofNat 16 (k % 2))
      | .fixInc => (fun _ => src, fun k => dst + BitVec.ofNat 16 k)),
    (.tai src dst len, fun k => src + BitVec.ofNat 16 (k % 2), fun k => dst + BitVec.ofNat 16 k)]

end Sys2Proof.Machine
end

