-- ==== Sys2Proof/WellFormed.lean ====
section
/-! DEFINITION. Well-formed instructions. Operand fields are exactly as wide as their encodings, so the
one check is the opcode of an undefined instruction (30_encoding.md R159). -/

namespace Sys2Proof

/-- The 20 undefined opcodes (30_encoding.md R159). -/
def undefinedOpcodes : List Byte :=
  [0x0B, 0x1B, 0x2B, 0x33, 0x3B, 0x4B, 0x5B, 0x5C, 0x63, 0x6B, 0x7B, 0x8B, 0x9B, 0xAB, 0xBB,
    0xDC, 0xE2, 0xEB, 0xFB, 0xFC]

/-- The check. -/
def Instr.wf : Instr → Bool
  | .undefined op => decide (op ∈ undefinedOpcodes)
  | .brk _ | .oraIndX _ | .sxy | .st0 _ | .tsbZp _ | .oraZp _ | .aslZp _ | .rmb0 _ | .php
  | .oraImm _ | .aslA | .tsbAbs _ | .oraAbs _ | .aslAbs _ | .bbr0 _ _ | .bpl _ | .oraIndY _
  | .oraInd _ | .st1 _ | .trbZp _ | .oraZpX _ | .aslZpX _ | .rmb1 _ | .clc | .oraAbsY _ | .incA
  | .trbAbs _ | .oraAbsX _ | .aslAbsX _ | .bbr1 _ _ | .jsr _ | .andIndX _ | .sax | .st2 _
  | .bitZp _ | .andZp _ | .rolZp _ | .rmb2 _ | .plp | .andImm _ | .rolA | .bitAbs _ | .andAbs _
  | .rolAbs _ | .bbr2 _ _ | .bmi _ | .andIndY _ | .andInd _ | .bitZpX _ | .andZpX _ | .rolZpX _
  | .rmb3 _ | .sec | .andAbsY _ | .decA | .bitAbsX _ | .andAbsX _ | .rolAbsX _ | .bbr3 _ _ | .rti
  | .eorIndX _ | .say | .tma _ | .bsr _ | .eorZp _ | .lsrZp _ | .rmb4 _ | .pha | .eorImm _
  | .lsrA | .jmpAbs _ | .eorAbs _ | .lsrAbs _ | .bbr4 _ _ | .bvc _ | .eorIndY _ | .eorInd _
  | .tam _ | .csl | .eorZpX _ | .lsrZpX _ | .rmb5 _ | .cli | .eorAbsY _ | .phy | .eorAbsX _
  | .lsrAbsX _ | .bbr5 _ _ | .rts | .adcIndX _ | .cla | .stzZp _ | .adcZp _ | .rorZp _ | .rmb6 _
  | .pla | .adcImm _ | .rorA | .jmpInd _ | .adcAbs _ | .rorAbs _ | .bbr6 _ _ | .bvs _
  | .adcIndY _ | .adcInd _ | .tii _ _ _ | .stzZpX _ | .adcZpX _ | .rorZpX _ | .rmb7 _ | .sei
  | .adcAbsY _ | .ply | .jmpIndX _ | .adcAbsX _ | .rorAbsX _ | .bbr7 _ _ | .bra _ | .staIndX _
  | .clx | .tstImmZp _ _ | .styZp _ | .staZp _ | .stxZp _ | .smb0 _ | .dey | .bitImm _ | .txa
  | .styAbs _ | .staAbs _ | .stxAbs _ | .bbs0 _ _ | .bcc _ | .staIndY _ | .staInd _
  | .tstImmAbs _ _ | .styZpX _ | .staZpX _ | .stxZpY _ | .smb1 _ | .tya | .staAbsY _ | .txs
  | .stzAbs _ | .staAbsX _ | .stzAbsX _ | .bbs1 _ _ | .ldyImm _ | .ldaIndX _ | .ldxImm _
  | .tstImmZpX _ _ | .ldyZp _ | .ldaZp _ | .ldxZp _ | .smb2 _ | .tay | .ldaImm _ | .tax
  | .ldyAbs _ | .ldaAbs _ | .ldxAbs _ | .bbs2 _ _ | .bcs _ | .ldaIndY _ | .ldaInd _
  | .tstImmAbsX _ _ | .ldyZpX _ | .ldaZpX _ | .ldxZpY _ | .smb3 _ | .clv | .ldaAbsY _ | .tsx
  | .ldyAbsX _ | .ldaAbsX _ | .ldxAbsY _ | .bbs3 _ _ | .cpyImm _ | .cmpIndX _ | .cly | .tdd _ _ _
  | .cpyZp _ | .cmpZp _ | .decZp _ | .smb4 _ | .iny | .cmpImm _ | .dex | .wai | .cpyAbs _
  | .cmpAbs _ | .decAbs _ | .bbs4 _ _ | .bne _ | .cmpIndY _ | .cmpInd _ | .tin _ _ _ | .csh
  | .cmpZpX _ | .decZpX _ | .smb5 _ | .cld | .cmpAbsY _ | .phx | .stp | .cmpAbsX _ | .decAbsX _
  | .bbs5 _ _ | .cpxImm _ | .sbcIndX _ | .tia _ _ _ | .cpxZp _ | .sbcZp _ | .incZp _ | .smb6 _
  | .inx | .sbcImm _ | .nop | .cpxAbs _ | .sbcAbs _ | .incAbs _ | .bbs6 _ _ | .beq _ | .sbcIndY _
  | .sbcInd _ | .tai _ _ _ | .set | .sbcZpX _ | .incZpX _ | .smb7 _ | .sed | .sbcAbsY _ | .plx
  | .sbcAbsX _ | .incAbsX _ | .bbs7 _ _ => true

end Sys2Proof
end

