-- ==== Sys2Proof/Certificates/Slice0/Obligations.lean ====
section
/-! DEFINITION. The statements for the provers. In each equation `exec i s = .next t`, s is the state after
the fetch, so PC is the address of the next instruction (10_state.md R38). -/

open Sys2Proof Sys2Proof.Machine

/-! ### Encoding -/

/-- Decoding an encoded well-formed instruction gives it back, with the bytes after it untouched. -/
def Obligations.DecodeInvertsEncode : Prop :=
  ∀ (i : Instr) (rest : List Byte), i.wf = true → decode (encode i ++ rest) = .ok (i, rest)

/-- Decoding is total on opcodes and loses nothing: every byte value followed by six others decodes, taking
0, 1, 2, 3 or 6 of them, to the undefined instruction exactly for the 20 undefined opcodes; and whatever
decodes is the encoding of the well-formed instruction it decodes to. -/
def Obligations.DecodeIsTotalAndFaithful : Prop :=
  undefinedOpcodes.length = 20 ∧
    (∀ op a b c d e f : Byte, ∃ i n, n ∈ [0, 1, 2, 3, 6] ∧
      decode [op, a, b, c, d, e, f] = .ok (i, [a, b, c, d, e, f].drop n) ∧
      (i = .undefined op ↔ op ∈ undefinedOpcodes)) ∧
    ∀ (bytes : List Byte) (i : Instr) (rest : List Byte), decode bytes = .ok (i, rest) →
      i.wf = true ∧ encode i ++ rest = bytes

/-- Instruction words written out from the opcode map decode to the instructions they stand for. -/
def Obligations.MapWordsDecode : Prop :=
  decode [0xA9, 0x0F] = .ok (.ldaImm 0x0F, []) ∧
    decode [0x99, 0x34, 0x12] = .ok (.staAbsY 0x1234, []) ∧
    decode [0x71, 0x10] = .ok (.adcIndY 0x10, []) ∧
    decode [0x93, 0x01, 0x00, 0x30] = .ok (.tstImmAbs 0x01 0x3000, []) ∧
    decode [0xFF, 0x10, 0xFD] = .ok (.bbs7 0x10 0xFD, []) ∧
    decode [0x6C, 0xFF, 0x30] = .ok (.jmpInd 0x30FF, []) ∧
    decode [0x53, 0x02] = .ok (.tam 0x02, []) ∧
    decode [0x73, 0x00, 0x30, 0x00, 0x20, 0x04, 0x00] = .ok (.tii 0x3000 0x2000 0x0004, []) ∧
    decode [0x33, 0xEA] = .ok (.undefined 0x33, [0xEA])

/-! ### The step -/

/-- When the bytes fetched from PC on are the whole encoding of an instruction, and no interrupt comes
first, the step is that instruction's meaning followed by the device advance of its cost. The field
`cycles` as the step's return value is the model's (log 6). -/
def Obligations.StepRunsDecodedInstruction : Prop :=
  ∀ (s : State) (i : Instr) (n : Nat), s.cpu.runState = .running →
    s.cpu.afterSet = true ∨ chosen s = none →
    decode (fetchBytes n { s with psgWrites := [] }).1 = .ok (i, []) →
    step s =
      match exec i (fetchBytes n { s with psgWrites := [] }).2 with
      | .next t => .next (t.advance t.cycles)
      | .fault e => .fault e
      | .refused e => .refused e

/-- Fetching from storage gives the bytes at PC in address order and moves PC past them, changing nothing
else. -/
def Obligations.FetchReadsBytesAtPc : Prop :=
  ∀ (n : Nat) (s : State),
    (∀ k < n, (s.place (s.cpu.pc + BitVec.ofNat 16 k)).isStorage = true) →
    fetchBytes n s =
      ((List.range n).map fun k => s.byteAt (s.place (s.cpu.pc + BitVec.ofNat 16 k)),
        { s with cpu := { s.cpu with pc := s.cpu.pc + BitVec.ofNat 16 n } })

/-- Every instruction completes in every state; T and AfterSet are 1 after it exactly if it was SET; no
instruction changes ROM (a write to a ROM page has no effect, the spec's decision D6) or the parameters (the
model's choice, log 1). That every instruction but SET clears T is the spec's decision D12. -/
def Obligations.EveryInstructionCompletes : Prop :=
  ∀ (i : Instr) (s : State), ∃ t, exec i s = .next t ∧
    t.cpu.p.t = decide (i = .set) ∧ t.cpu.afterSet = decide (i = .set) ∧
    t.rom = s.rom ∧ t.params = s.params

/-- No step faults or refuses, and no step changes ROM (a write to a ROM page has no effect, the spec's
decision D6) or the parameters (the model's choice, log 1). -/
def Obligations.StepNeverFaults : Prop :=
  ∀ s : State, ∃ t, step s = .next t ∧ t.rom = s.rom ∧ t.params = s.params

/-- Every step keeps the memories canonical and inside their sizes, the counters in their ranges, and
AfterSet equal to T. -/
def Obligations.StepKeepsMachineWellFormed : Prop :=
  ∀ s t : State, s.params.wf = true → s.inv = true → step s = .next t → t.inv = true

/-- A step of a Running CPU that fetches or enters an interrupt returns at least 2 cycles, with the
default cost parameters. The costs per class are the model's reading of the table (log 7). -/
def Obligations.RunningStepReturnsAtLeastTwo : Prop :=
  ∀ s t : State, s.cpu.runState = .running →
    s.params.cyc = Params.default.cyc ∧ s.params.btBase = 17 ∧ s.params.btPerByte = 6 →
    step s = .next t → 2 ≤ t.cycles

/-- A byte at PC that is an undefined opcode is a one-byte no-op: PC moves by 1, T is cleared, nothing
else changes before the device advance of R425 that ends the step of R460; its default cost is 2. The cost
is log 7's reading of R620. -/
def Obligations.UndefinedOpcodesAreNoOps : Prop :=
  undefinedOpcodes =
      [0x0B, 0x1B, 0x2B, 0x33, 0x3B, 0x4B, 0x5B, 0x5C, 0x63, 0x6B, 0x7B, 0x8B, 0x9B, 0xAB, 0xBB,
        0xDC, 0xE2, 0xEB, 0xFB, 0xFC] ∧
    Params.default.cyc.undefined = 2 ∧
    (∀ (op : Byte) (s : State), exec (.undefined op) s =
      .next { s with
        cycles := s.params.cyc.undefined
        cpu := { s.cpu with afterSet := false, p := { s.cpu.p with t := false } } }) ∧
    ∀ s : State, s.cpu.runState = .running → s.cpu.afterSet = true ∨ chosen s = none →
      (s.place s.cpu.pc).isStorage = true → s.byteAt (s.place s.cpu.pc) ∈ undefinedOpcodes →
      step s = .next (State.advance s.params.cyc.undefined
        { s with
          psgWrites := [], cycles := s.params.cyc.undefined
          cpu :=
            { s.cpu with
              pc := s.cpu.pc + 1, afterSet := false, p := { s.cpu.p with t := false } } })

/-- A Stopped CPU, and a Waiting one with nothing to take, steps by the device advance alone and returns
0: no CPU register, slot or memory byte changes. Rests on the spec's decisions D18, D19 and D56. -/
def Obligations.IdleStepKeepsCpu : Prop :=
  ∀ s : State,
    s.cpu.runState = .stopped ∨ (s.cpu.runState = .waiting ∧ chosen s = none) →
    ∃ t, step s = .next t ∧ t.cycles = 0 ∧ t.cpu = s.cpu ∧ t.mpr = s.mpr ∧ t.pad = s.pad ∧
      t.vce = s.vce ∧ t.irq.mask = s.irq.mask ∧ MemoryKept s t ∧
      t = { State.advance s.params.idleStepCycles { s with psgWrites := [] } with cycles := 0 }

/-! ### Interrupts -/

/-- The source taken: NMI first, then Timer, IRQ1 and IRQ2 when requested, not disabled, and I = 0. NMI
above the others is the spec's decision D30. -/
def Obligations.InterruptPriorityOrder : Prop :=
  ∀ s : State, chosen s =
    if s.cpu.nmiPending = true then some .nmi
    else if s.cpu.p.i = true then none
    else if s.irq.req.getLsbD 2 = true ∧ s.irq.mask.getLsbD 2 = false then some .timer
    else if s.irq.req.getLsbD 1 = true ∧ s.irq.mask.getLsbD 1 = false then some .irq1
    else if s.irq.req.getLsbD 0 = true ∧ s.irq.mask.getLsbD 0 = false then some .irq2
    else none

/-- The interrupt entry step: return address and status pushed with B = 0, I set, D and T cleared, the
request cleared, PC from the vector, and the entry cost; every other CPU register and every other byte
of memory stays. The vectors are $FFFC (NMI), $FFFA (Timer), $FFF8 (IRQ1) and $FFF6 (IRQ2). Vectors and
request bits are the spec's decision D27, the slot mapping D55; the cost is a field of log 7's table. -/
def Obligations.InterruptEntryStep : Prop :=
  ∀ (s : State) (src : Source),
    s.cpu.runState = .waiting ∨ s.cpu.runState = .running → s.cpu.afterSet = false →
    chosen s = some src →
    let s0 := { s with psgWrites := [] }
    let s1 := memWrite (stackAddr s.cpu.sp) (hiByte s.cpu.pc) s0
    let s2 := memWrite (stackAddr (s.cpu.sp - 1)) (loByte s.cpu.pc) s1
    let s3 := memWrite (stackAddr (s.cpu.sp - 2)) (s.cpu.p.toByte false) s2
    let s4 : State :=
      match src with
      | .timer => { s3 with irq := s3.irq.clear 2 }
      | .irq1 => { s3 with irq := s3.irq.clear 1 }
      | .irq2 => { s3 with irq := s3.irq.clear 0 }
      | .nmi | .brk => s3
    let vector : Word :=
      match src with
      | .nmi => 0xFFFC
      | .timer => 0xFFFA
      | .irq1 => 0xFFF8
      | .irq2 | .brk => 0xFFF6
    let lo := memRead vector s4
    let hi := memRead (vector + 1) lo.2
    let t :=
      State.advance s.params.cyc.entry
        { hi.2 with
          cycles := s.params.cyc.entry
          cpu :=
            { s.cpu with
              sp := s.cpu.sp - 3, pc := hi.1 ++ lo.1, runState := .running, afterSet := false
              nmiPending := s.cpu.nmiPending && decide (src ≠ .nmi)
              p := { s.cpu.p with i := true, d := false, t := false } } }
    step s = .next t ∧
      MemoryKeptBut
        [s.place (stackAddr s.cpu.sp), s1.place (stackAddr (s.cpu.sp - 1)),
          s2.place (stackAddr (s.cpu.sp - 2))] s t

/-- With the stack in RAM, RTI undoes interrupt entry and BRK, and RTS undoes JSR and BSR: PC, S, the
registers and every flag but T come back. T cleared by RTI is the spec's decision D12. -/
def Obligations.ReturnsUndoEntriesAndCalls : Prop :=
  ∀ (s u : State) (src : Source) (sig rr : Byte) (hhll : Word), s.slot1InRam = true →
    s.wram.wf = true →
    let back : Cpu := { s.cpu with p := { s.cpu.p with t := false }, afterSet := false }
    (∃ t, exec .rti (interruptEntry src s) = .next t ∧
      t.cpu =
        { back with
          runState := .running, nmiPending := s.cpu.nmiPending && decide (src ≠ .nmi) }) ∧
    (exec (.brk sig) s = .next u → ∃ t, exec .rti u = .next t ∧ t.cpu = back) ∧
    (exec (.jsr hhll) s = .next u ∨ exec (.bsr rr) s = .next u →
      ∃ t, exec .rts u = .next t ∧ t.cpu = back)

/-! ### Loads, stores, transfers, stack -/

/-- The effective address of every memory form, with the pointer reads it makes, and the operand: an
immediate is its byte, a memory operand the byte at its effective address, read after those pointer reads.
-/
def Obligations.EffectiveAddresses : Prop :=
  ∀ (zz : Byte) (hhll : Word) (s : State),
    ea (.zp zz) s = (0x2000 + zz.zeroExtend 16, s) ∧
    ea (.zpX zz) s = (0x2000 + (zz + s.cpu.x).zeroExtend 16, s) ∧
    ea (.zpY zz) s = (0x2000 + (zz + s.cpu.y).zeroExtend 16, s) ∧
    ea (.abs hhll) s = (hhll, s) ∧
    ea (.absX hhll) s = (hhll + s.cpu.x.zeroExtend 16, s) ∧
    ea (.absY hhll) s = (hhll + s.cpu.y.zeroExtend 16, s) ∧
    (∀ (m : Addr) (z : Byte),
      m = .ind zz ∧ z = zz ∨ m = .indX zz ∧ z = zz + s.cpu.x ∨ m = .indY zz ∧ z = zz →
      let lo := memRead (0x2000 + z.zeroExtend 16) s
      let hi := memRead (0x2000 + (z + 1).zeroExtend 16) lo.2
      ea m s =
        (hi.1 ++ lo.1 + (if m = .indY zz then s.cpu.y.zeroExtend 16 else 0), hi.2)) ∧
    readOperand (.imm zz) s = (zz, s) ∧
    ∀ m : Addr, readOperand (.mem m) s = memRead (ea m s).1 (ea m s).2

/-- Reading operands and pulling change no register but S, no slot and no byte of memory: only what a device
read changes. -/
def Obligations.ReadsChangeOnlyDevices : Prop :=
  ∀ (s : State) (a : Word) (o : Operand) (m : Addr),
    ReadsOnly s (memRead a s).2 ∧ ReadsOnly s (read16 a s).2 ∧ ReadsOnly s (ea m s).2 ∧
      ReadsOnly s (readOperand o s).2 ∧ ReadsOnly (s.setSp (s.cpu.sp + 1)) (pull s).2 ∧
      ((s.place a).isStorage = true → memRead a s = (s.byteAt (s.place a), s))

/-- LDA, LDX and LDY, every form: the register takes the operand, N and Z follow it; nothing else
changes but what reading the operand changes. The cost is log 7's reading of R620. -/
def Obligations.LoadsTakeOperand : Prop :=
  ∀ (nn zz : Byte) (hhll : Word) (s : State) (f : Instr × Operand),
    let m := readOperand f.2 s
    let p := { s.cpu.p with n := decide (128 ≤ m.1.toNat), z := decide (m.1 = 0), t := false }
    let c := f.2.cost s.params.cyc
    opcodes (ldaForms nn zz hhll) = [0xA9, 0xA5, 0xB5, 0xB2, 0xA1, 0xB1, 0xAD, 0xBD, 0xB9] ∧
    opcodes (ldxForms nn zz hhll) = [0xA2, 0xA6, 0xB6, 0xAE, 0xBE] ∧
    opcodes (ldyForms nn zz hhll) = [0xA0, 0xA4, 0xB4, 0xAC, 0xBC] ∧
    (f ∈ ldaForms nn zz hhll → exec f.1 s =
      .next { m.2 with cycles := c, cpu := { s.cpu with a := m.1, p := p, afterSet := false } }) ∧
    (f ∈ ldxForms nn zz hhll → exec f.1 s =
      .next { m.2 with cycles := c, cpu := { s.cpu with x := m.1, p := p, afterSet := false } }) ∧
    (f ∈ ldyForms nn zz hhll → exec f.1 s =
      .next { m.2 with cycles := c, cpu := { s.cpu with y := m.1, p := p, afterSet := false } }) ∧
    ReadsOnly s m.2 ∧ MemoryKept s m.2

/-- STA, STX, STY and STZ, every form: one byte is written at the effective address; no register, no
flag but T, and no other byte of memory changes. The cost is log 7's reading of R620. -/
def Obligations.StoresWriteOneByte : Prop :=
  (∀ (zz : Byte) (hhll : Word),
    opcodes (staForms zz hhll) = [0x85, 0x95, 0x92, 0x81, 0x91, 0x8D, 0x9D, 0x99] ∧
      opcodes (stxForms zz hhll) = [0x86, 0x96, 0x8E] ∧
      opcodes (styForms zz hhll) = [0x84, 0x94, 0x8C] ∧
      opcodes (stzForms zz hhll) = [0x64, 0x74, 0x9C, 0x9E]) ∧
  ∀ (zz : Byte) (hhll : Word) (s : State) (f : Instr × Addr) (v : Byte),
    f ∈ staForms zz hhll ∧ v = s.cpu.a ∨ f ∈ stxForms zz hhll ∧ v = s.cpu.x ∨
      f ∈ styForms zz hhll ∧ v = s.cpu.y ∨ f ∈ stzForms zz hhll ∧ v = 0x00 →
    let e := ea f.2 s
    let t :=
      { memWrite e.1 v e.2 with
        cycles := f.2.cost s.params.cyc
        cpu := { s.cpu with p := { s.cpu.p with t := false }, afterSet := false } }
    exec f.1 s = .next t ∧ MemoryKeptBut [s.place e.1] s t

/-- The register transfers, swaps and clears: the transfers but TXS set N and Z, the rest change no flag
but T; no memory is touched. The cost is log 7's reading of R620. -/
def Obligations.TransfersSwapsAndClears : Prop :=
  ∀ s : State,
    let p := { s.cpu.p with t := false }
    let nz (v : Byte) : Flags := { p with n := decide (128 ≤ v.toNat), z := decide (v = 0) }
    let done (k : Nat) (c : Cpu) : Out :=
      .next { s with cycles := k, cpu := { c with afterSet := false } }
    exec .tax s = done s.params.cyc.implied { s.cpu with x := s.cpu.a, p := nz s.cpu.a } ∧
    exec .tay s = done s.params.cyc.implied { s.cpu with y := s.cpu.a, p := nz s.cpu.a } ∧
    exec .txa s = done s.params.cyc.implied { s.cpu with a := s.cpu.x, p := nz s.cpu.x } ∧
    exec .tya s = done s.params.cyc.implied { s.cpu with a := s.cpu.y, p := nz s.cpu.y } ∧
    exec .tsx s = done s.params.cyc.implied { s.cpu with x := s.cpu.sp, p := nz s.cpu.sp } ∧
    exec .txs s = done s.params.cyc.implied { s.cpu with sp := s.cpu.x, p := p } ∧
    exec .sax s = done s.params.cyc.swap { s.cpu with a := s.cpu.x, x := s.cpu.a, p := p } ∧
    exec .say s = done s.params.cyc.swap { s.cpu with a := s.cpu.y, y := s.cpu.a, p := p } ∧
    exec .sxy s = done s.params.cyc.swap { s.cpu with x := s.cpu.y, y := s.cpu.x, p := p } ∧
    exec .cla s = done s.params.cyc.implied { s.cpu with a := 0, p := p } ∧
    exec .clx s = done s.params.cyc.implied { s.cpu with x := 0, p := p } ∧
    exec .cly s = done s.params.cyc.implied { s.cpu with y := 0, p := p }

/-- PHA, PHP, PHX and PHY: one byte at the stack address of S, then S down by 1; PHP's byte has B = 1
and T as it was; no flag but T and no other byte of memory changes. PHP's B bit is the spec's decision
D13. The cost is log 7's reading of R620. -/
def Obligations.PushesWriteStackByte : Prop :=
  ∀ (s : State) (i : Instr) (v : Byte),
    i = .pha ∧ v = s.cpu.a ∨ i = .phx ∧ v = s.cpu.x ∨ i = .phy ∧ v = s.cpu.y ∨
      i = .php ∧ v.toNat = 128 * s.cpu.p.n.toNat + 64 * s.cpu.p.v.toNat + 32 * s.cpu.p.t.toNat
        + 16 + 8 * s.cpu.p.d.toNat + 4 * s.cpu.p.i.toNat + 2 * s.cpu.p.z.toNat
        + s.cpu.p.c.toNat →
    let t :=
      { memWrite (0x2100 + s.cpu.sp.zeroExtend 16) v s with
        cycles := s.params.cyc.push
        cpu :=
          { s.cpu with
            sp := s.cpu.sp - 1, p := { s.cpu.p with t := false }, afterSet := false } }
    exec i s = .next t ∧ MemoryKeptBut [s.place (0x2100 + s.cpu.sp.zeroExtend 16)] s t

/-- PLA, PLX, PLY and PLP: S up by 1, then the byte at its stack address into the register with N and Z,
or into the flags with bit 4 ignored and T cleared; no byte of memory changes. PLP clearing T is the
spec's decision D12. The cost is log 7's reading of R620. -/
def Obligations.PullsReadStackByte : Prop :=
  ∀ s : State,
    let sp := s.cpu.sp + 1
    let m := memRead (0x2100 + sp.zeroExtend 16) s
    let p := { s.cpu.p with n := decide (128 ≤ m.1.toNat), z := decide (m.1 = 0), t := false }
    let done (c : Cpu) : Out :=
      .next { m.2 with cycles := s.params.cyc.pull, cpu := { c with sp := sp, afterSet := false } }
    exec .pla s = done { s.cpu with a := m.1, p := p } ∧
    exec .plx s = done { s.cpu with x := m.1, p := p } ∧
    exec .ply s = done { s.cpu with y := m.1, p := p } ∧
    exec .plp s = done { s.cpu with
      p :=
        { n := decide (128 ≤ m.1.toNat), v := decide (64 ≤ m.1.toNat % 128), t := false
          d := decide (8 ≤ m.1.toNat % 16), i := decide (4 ≤ m.1.toNat % 8)
          z := decide (2 ≤ m.1.toNat % 4), c := decide (1 ≤ m.1.toNat % 2) } } ∧
    ReadsOnly s m.2 ∧ MemoryKept s m.2

/-! ### Arithmetic and logic -/

/-- Binary ADC and SBC into A, every form: the sum or difference mod 256, C its carry or not-borrow, V
its signed overflow. The cost is log 7's reading of R620. -/
def Obligations.BinaryAddAndSubtract : Prop :=
  ∀ (nn zz : Byte) (hhll : Word) (s : State) (sub : Bool) (f : Instr × Operand),
    f ∈ (if sub then sbcForms else adcForms) nn zz hhll → s.cpu.p.d = false →
    tModeApplies f.2 s = false →
    let m := readOperand f.2 s
    let a := s.cpu.a
    let c := s.cpu.p.c.toNat
    let r : Int := if sub then (a.toNat : Int) - m.1.toNat - (1 - c) else a.toNat + m.1.toNat + c
    let q : Int := if sub then a.toInt - m.1.toInt - (1 - c) else a.toInt + m.1.toInt + c
    let b := BitVec.ofInt 8 r
    exec f.1 s =
      .next { m.2 with
        cycles := f.2.cost s.params.cyc
        cpu :=
          { s.cpu with
            a := b, afterSet := false
            p :=
              { s.cpu.p with
                n := decide (128 ≤ b.toNat), z := decide (b = 0), t := false
                c := decide (if sub then 0 ≤ r else 256 ≤ r)
                v := decide (q < -128 ∨ 127 < q) } } } ∧
      ReadsOnly s m.2 ∧ MemoryKept s m.2

/-- Decimal ADC and SBC into A, every form: the digit-by-digit steps of the decimal adder, or with
BCD_INVALID = Draw any result where an operand is not BCD; for valid BCD operands the sum or difference
mod 100 with its carry or not-borrow; V is any value. And decimal SBC of b with carry-in 1 - c undoes
decimal ADC of b with carry-in c, borrowing where the ADC carried out, the form conflict C1 settles.
Rests on the spec's decisions D14 and D47; the cost is log 7's reading of R620. -/
def Obligations.DecimalAddAndSubtract : Prop :=
  (∀ (nn zz : Byte) (hhll : Word) (s : State) (sub : Bool) (f : Instr × Operand),
    f ∈ (if sub then sbcForms else adcForms) nn zz hhll → s.cpu.p.d = true →
    tModeApplies f.2 s = false →
    let m := readOperand f.2 s
    let a := s.cpu.a
    let c := s.cpu.p.c.toNat
    let x : Int :=
      if sub then (bcdValue a : Int) - bcdValue m.1 - (1 - c) else bcdValue a + bcdValue m.1 + c
    ∃ (b : Byte) (co v : Bool) (k : Nat),
      exec f.1 s =
        .next { m.2 with
          cycles := f.2.cost s.params.cyc + s.params.cyc.decimalExtra
          draws := k
          cpu :=
            { s.cpu with
              a := b, afterSet := false
              p :=
                { s.cpu.p with
                  n := decide (128 ≤ b.toNat), z := decide (b = 0), t := false, c := co
                  v := v } } } ∧
        (isBcd a = true → isBcd m.1 = true →
          isBcd b = true ∧ (bcdValue b : Int) = x % 100 ∧
            co = decide (if sub then 0 ≤ x else 100 ≤ x)) ∧
        (s.params.bcdInvalid = .algorithm → sub = false →
          let low := a.toNat % 16 + m.1.toNat % 16 + c
          let lo := if 9 < low then low + 6 else low
          let high := a.toNat / 16 + m.1.toNat / 16 + (if 15 < lo then 1 else 0)
          let hi := if 9 < high then high + 6 else high
          b.toNat = (16 * hi + lo % 16) % 256 ∧ co = decide (15 < hi)) ∧
        (s.params.bcdInvalid = .algorithm → sub = true →
          let low : Int := (a.toNat % 16 : Nat) - (m.1.toNat % 16 : Nat) - (1 - c)
          let lo := if low < 0 then low - 6 else low
          let high : Int := (a.toNat / 16 : Nat) - (m.1.toNat / 16 : Nat) - (if low < 0 then 1 else 0)
          let hi := if high < 0 then high - 6 else high
          (b.toNat : Int) = (16 * hi + lo % 16) % 256 ∧
            co = decide ((0 : Int) ≤ a.toNat - m.1.toNat - (1 - c))) ∧
        ReadsOnly s m.2 ∧ MemoryKept s m.2) ∧
  ∀ (s t u : State) (b : Byte), s.cpu.p.d = true → isBcd s.cpu.a = true → isBcd b = true →
    exec (.adcImm b) s = .next t →
    exec (.sbcImm b)
      { t with cpu := { t.cpu with p := { t.cpu.p with c := !s.cpu.p.c } } } = .next u →
    u.cpu.a = s.cpu.a ∧ u.cpu.p.c = !t.cpu.p.c

/-- AND, ORA and EOR into A, every form: the bitwise result, N and Z; C, V and memory stay. The cost is
log 7's reading of R620. -/
def Obligations.LogicIntoAccumulator : Prop :=
  ∀ (nn zz : Byte) (hhll : Word) (s : State) (f : Instr × Operand) (b : Byte),
    tModeApplies f.2 s = false →
    let m := readOperand f.2 s
    f ∈ andForms nn zz hhll ∧ b = s.cpu.a &&& m.1 ∨ f ∈ oraForms nn zz hhll ∧ b = s.cpu.a ||| m.1 ∨
      f ∈ eorForms nn zz hhll ∧ b = s.cpu.a ^^^ m.1 →
    exec f.1 s =
      .next { m.2 with
        cycles := f.2.cost s.params.cyc
        cpu :=
          { s.cpu with
            a := b, afterSet := false
            p :=
              { s.cpu.p with
                n := decide (128 ≤ b.toNat), z := decide (b = 0), t := false } } } ∧
      ReadsOnly s m.2 ∧ MemoryKept s m.2

/-- T-mode: with T = 1, a memory form of T_MODE_SET does what the immediate form does with the zero-page
byte at X in A's place; the result goes back to that byte and A is not touched. The forms T redirects
are the spec's decision D10. The cost is log 7's reading of R620. -/
def Obligations.TModeActsOnMemory : Prop :=
  ∀ (op : AluOp) (nn zz : Byte) (hhll : Word) (s : State) (i : Instr) (m : Addr),
    (i, Operand.mem m) ∈ op.forms nn zz hhll → s.cpu.p.t = true → m.mode ∈ s.params.tModeSet →
    let o := readOperand (.mem m) s
    let tgt := 0x2000 + s.cpu.x.zeroExtend 16
    let acc := memRead tgt o.2
    ∃ u t, exec (op.immForm o.1) { acc.2 with cpu := { s.cpu with a := acc.1 } } = .next u ∧
      t =
        { memWrite tgt u.cpu.a { acc.2 with draws := u.draws } with
          cycles :=
            m.cost s.params.cyc + (u.cycles - s.params.cyc.imm) + s.params.cyc.tModeExtra
          cpu := { s.cpu with p := u.cpu.p, afterSet := false } } ∧
      exec i s = .next t ∧ t.cpu.p.t = false ∧ MemoryKeptBut [s.place tgt] s t

/-- CMP, CPX and CPY, every form: C, Z and N from the unsigned comparison; V, the registers and memory
stay. The cost is log 7's reading of R620. -/
def Obligations.ComparesSetFlags : Prop :=
  (∀ (nn zz : Byte) (hhll : Word),
    opcodes (cmpForms nn zz hhll) = [0xC9, 0xC5, 0xD5, 0xD2, 0xC1, 0xD1, 0xCD, 0xDD, 0xD9] ∧
      opcodes (cpxForms nn zz hhll) = [0xE0, 0xE4, 0xEC] ∧
      opcodes (cpyForms nn zz hhll) = [0xC0, 0xC4, 0xCC]) ∧
  ∀ (nn zz : Byte) (hhll : Word) (s : State) (f : Instr × Operand) (r : Byte),
    f ∈ cmpForms nn zz hhll ∧ r = s.cpu.a ∨ f ∈ cpxForms nn zz hhll ∧ r = s.cpu.x ∨
      f ∈ cpyForms nn zz hhll ∧ r = s.cpu.y →
    let m := readOperand f.2 s
    exec f.1 s =
      .next { m.2 with
        cycles := f.2.cost s.params.cyc
        cpu :=
          { s.cpu with
            afterSet := false
            p :=
              { s.cpu.p with
                n := decide (128 ≤ (r.toNat + 256 - m.1.toNat) % 256)
                z := decide (r = m.1), c := decide (m.1.toNat ≤ r.toNat), t := false } } } ∧
      ReadsOnly s m.2 ∧ MemoryKept s m.2

/-- BIT and TST, every form: Z of the operand masked by A or by the immediate, N and V bits 7 and 6 of
the operand; nothing is written. BIT immediate's N and V are the spec's decision D15. The cost is log
7's reading of R620. -/
def Obligations.BitTestsSetFlags : Prop :=
  ∀ (nn zz : Byte) (hhll : Word) (s : State) (i : Instr) (o : Operand) (mask : Byte) (cost : Nat),
    (i, o) ∈ bitForms nn zz hhll ∧ mask = s.cpu.a ∧ cost = o.cost s.params.cyc ∨
      (∃ a, (i, a) ∈ tstForms nn zz hhll ∧ o = .mem a ∧ mask = nn ∧
        cost = a.tstCost s.params.cyc) →
    let m := readOperand o s
    exec i s =
      .next { m.2 with
        cycles := cost
        cpu :=
          { s.cpu with
            afterSet := false
            p :=
              { s.cpu.p with
                n := decide (128 ≤ m.1.toNat), v := decide (64 ≤ m.1.toNat % 128)
                z := decide (mask &&& m.1 = 0), t := false } } } ∧
      ReadsOnly s m.2 ∧ MemoryKept s m.2

/-- TSB and TRB, both forms: one read and one write of the same byte, Z of A and the byte before, N and
V by TSB_TRB_NV; no register and no other byte of memory changes. N and V are an OPEN parameter
(decision D16, log 22). The cost is log 7's reading of R620. -/
def Obligations.TestAndSetOrReset : Prop :=
  ∀ (zz : Byte) (hhll : Word) (s : State) (f : Instr × Addr) (set : Bool),
    f ∈ (if set then [(.tsbZp zz, .zp zz), (.tsbAbs hhll, .abs hhll)]
      else [(.trbZp zz, .zp zz), (.trbAbs hhll, .abs hhll)]) →
    let e := ea f.2 s
    let m := memRead e.1 e.2
    let r := if set then m.1 ||| s.cpu.a else m.1 &&& ~~~s.cpu.a
    let nv : Bool × Bool :=
      match s.params.tsbTrbNv with
      | .operand => (m.1.getLsbD 7, m.1.getLsbD 6)
      | .result => (r.getLsbD 7, r.getLsbD 6)
      | .unchanged => (s.cpu.p.n, s.cpu.p.v)
    let t :=
      { memWrite e.1 r m.2 with
        cycles := f.2.rmwCost s.params.cyc
        cpu :=
          { s.cpu with
            afterSet := false
            p :=
              { s.cpu.p with
                n := nv.1, v := nv.2, z := decide (s.cpu.a &&& m.1 = 0), t := false } } }
    exec f.1 s = .next t ∧ ReadsOnly s m.2 ∧ MemoryKeptBut [s.place e.1] s t

/-- INX, INY, DEX and DEY: the register counts mod 256, N and Z follow it; C, V and every other register
stay. The cost is log 7's reading of R620. -/
def Obligations.IndexRegistersCount : Prop :=
  ∀ s : State,
    let p (v : Byte) : Flags :=
      { s.cpu.p with n := decide (128 ≤ v.toNat), z := decide (v = 0), t := false }
    let done (c : Cpu) : Out :=
      .next { s with cycles := s.params.cyc.implied, cpu := { c with afterSet := false } }
    let up (b : Byte) := BitVec.ofNat 8 (b.toNat + 1)
    let down (b : Byte) := BitVec.ofNat 8 (b.toNat + 255)
    exec .inx s = done { s.cpu with x := up s.cpu.x, p := p (up s.cpu.x) } ∧
    exec .iny s = done { s.cpu with y := up s.cpu.y, p := p (up s.cpu.y) } ∧
    exec .dex s = done { s.cpu with x := down s.cpu.x, p := p (down s.cpu.x) } ∧
    exec .dey s = done { s.cpu with y := down s.cpu.y, p := p (down s.cpu.y) } ∧
    encode .inx = [0xE8] ∧ encode .iny = [0xC8] ∧ encode .dex = [0xCA] ∧ encode .dey = [0x88]

/-- INC, DEC, ASL, LSR, ROL and ROR, every form: of A with no memory access, of memory with one read and
one write of the same byte; N, Z and C by the operation; V, every other register and every other byte of
memory stay. The cost is log 7's reading of R620. -/
def Obligations.CountsShiftsAndRotates : Prop :=
  ∀ (op : RmwOp) (zz : Byte) (hhll : Word) (s : State),
    let p (c : Bool) (r : Byte) : Flags :=
      { s.cpu.p with n := decide (128 ≤ r.toNat), z := decide (r = 0), c := c, t := false }
    (encode op.accForm).headD 0 :: opcodes (op.forms zz hhll) = op.opcodes ∧
    (∃ (r : Byte) (c : Bool), op.Computes s.cpu.a s.cpu.p.c r c ∧
      exec op.accForm s =
        .next { s with
          cycles := s.params.cyc.implied
          cpu := { s.cpu with a := r, p := p c r, afterSet := false } }) ∧
    ∀ f ∈ op.forms zz hhll,
      let e := ea f.2 s
      let m := memRead e.1 e.2
      ∃ (r : Byte) (c : Bool) (t : State),
        op.Computes m.1 s.cpu.p.c r c ∧
          t =
            { memWrite e.1 r m.2 with
              cycles := f.2.rmwCost s.params.cyc
              cpu := { s.cpu with p := p c r, afterSet := false } } ∧
          exec f.1 s = .next t ∧ ReadsOnly s m.2 ∧ MemoryKeptBut [s.place e.1] s t

/-- RMBi and SMBi, all sixteen: the zero-page byte is written back with bit i cleared or set and the
other bits as they were; no flag but T and no other byte of memory changes. The cost is log 7's reading
of R620. -/
def Obligations.ZeroPageBitWrites : Prop :=
  ∀ (zz : Byte) (s : State) (i : Instr) (k : Nat) (b : Bool), (i, k, b) ∈ zpBitForms zz →
    let a := 0x2000 + zz.zeroExtend 16
    let m := memRead a s
    ∃ (r : Byte) (t : State),
      (∀ j < 8, r.getLsbD j = if j = k then b else m.1.getLsbD j) ∧
        t =
          { memWrite a r m.2 with
            cycles := s.params.cyc.bitOp
            cpu := { s.cpu with p := { s.cpu.p with t := false }, afterSet := false } } ∧
        exec i s = .next t ∧ ReadsOnly s m.2 ∧ MemoryKeptBut [s.place a] s t

/-! ### Control -/

/-- The eight conditional branches: PC moves by the signed displacement exactly if the flag says so, and
the cost says which; nothing but PC and T changes. The cost is log 7's reading of R620. -/
def Obligations.ConditionalBranches : Prop :=
  (∀ (rr : Byte) (f : Flags),
    opcodes (branchForms rr f) = [0x10, 0x30, 0x50, 0x70, 0x90, 0xB0, 0xD0, 0xF0]) ∧
  ∀ (rr : Byte) (s : State) (i : Instr) (b : Bool), (i, b) ∈ branchForms rr s.cpu.p →
    exec i s =
      .next { s with
        cycles := if b then s.params.cyc.branchTaken else s.params.cyc.branch
        cpu :=
          { s.cpu with
            pc := if b then s.cpu.pc + BitVec.ofInt 16 rr.toInt else s.cpu.pc
            p := { s.cpu.p with t := false }, afterSet := false } }

/-- BBRi and BBSi, all sixteen: PC moves by the signed displacement exactly if bit i of the zero-page
byte is as tested, with the page penalty when the branch leaves the page; nothing is written. The
penalty is the spec's decision D23. The cost is log 7's reading of R620. -/
def Obligations.BitTestBranches : Prop :=
  ∀ (zz rr : Byte) (s : State) (i : Instr) (k : Nat) (b : Bool),
    (i, k, b) ∈ bitBranchForms zz rr →
    let m := memRead (0x2000 + zz.zeroExtend 16) s
    let taken := m.1.getLsbD k == b
    let target := s.cpu.pc + BitVec.ofInt 16 rr.toInt
    let cross := decide (s.cpu.pc.toNat / 256 ≠ target.toNat / 256)
    exec i s =
      .next { m.2 with
        cycles :=
          if taken then
            s.params.cyc.bitBranchTaken + (if cross then s.params.bbxPagePenalty else 0)
          else s.params.cyc.bitBranch
        cpu :=
          { s.cpu with
            pc := if taken then target else s.cpu.pc
            p := { s.cpu.p with t := false }, afterSet := false } } ∧
      ReadsOnly s m.2 ∧ MemoryKept s m.2

/-- BRA and the three JMP forms: where PC goes; a pointer's high byte is read from the next address.
Nothing else changes but what the pointer reads change. The cost is log 7's reading of R620. -/
def Obligations.JumpTargets : Prop :=
  ∀ (rr : Byte) (hhll p : Word) (s : State),
    let done (u : State) (k : Nat) (pc : Word) : Out :=
      .next { u with
        cycles := k
        cpu := { s.cpu with pc := pc, p := { s.cpu.p with t := false }, afterSet := false } }
    let lo := memRead p s
    let hi := memRead (p + 1) lo.2
    exec (.bra rr) s = done s s.params.cyc.bra (s.cpu.pc + BitVec.ofInt 16 rr.toInt) ∧
    exec (.jmpAbs hhll) s = done s s.params.cyc.jmpAbs hhll ∧
    (p = hhll → exec (.jmpInd hhll) s = done hi.2 s.params.cyc.jmpInd (hi.1 ++ lo.1)) ∧
    (p = hhll + s.cpu.x.zeroExtend 16 →
      exec (.jmpIndX hhll) s = done hi.2 s.params.cyc.jmpInd (hi.1 ++ lo.1)) ∧
    ReadsOnly s hi.2 ∧ MemoryKept s hi.2

/-- JSR and BSR: the address of the call's last byte is pushed, high byte first, and PC goes to the
target; only the two stack bytes change in memory. The cost is log 7's reading of R620. -/
def Obligations.CallsPushReturnAddress : Prop :=
  ∀ (rr : Byte) (hhll : Word) (s : State) (i : Instr) (target : Word) (k : Nat),
    i = .jsr hhll ∧ target = hhll ∧ k = s.params.cyc.jsr ∨
      i = .bsr rr ∧ target = s.cpu.pc + BitVec.ofInt 16 rr.toInt ∧ k = s.params.cyc.bsr →
    let ret := s.cpu.pc - 1
    let u := memWrite (stackAddr s.cpu.sp) (hiByte ret) s
    let t :=
      { memWrite (stackAddr (s.cpu.sp - 1)) (loByte ret) u with
        cycles := k
        cpu :=
          { s.cpu with
            pc := target, sp := s.cpu.sp - 2, p := { s.cpu.p with t := false }
            afterSet := false } }
    exec i s = .next t ∧
      MemoryKeptBut [s.place (stackAddr s.cpu.sp), u.place (stackAddr (s.cpu.sp - 1))] s t

/-- RTS and RTI: what each pulls, in order, and where PC goes; no byte of memory changes. T cleared by
RTI is the spec's decision D12. The cost is log 7's reading of R620. -/
def Obligations.ReturnsPullPc : Prop :=
  ∀ s : State,
    let b1 := memRead (stackAddr (s.cpu.sp + 1)) s
    let b2 := memRead (stackAddr (s.cpu.sp + 2)) b1.2
    let b3 := memRead (stackAddr (s.cpu.sp + 3)) b2.2
    exec .rts s =
      .next { b2.2 with
        cycles := s.params.cyc.jsr
        cpu :=
          { s.cpu with
            sp := s.cpu.sp + 2, pc := (b2.1 ++ b1.1) + 1, p := { s.cpu.p with t := false }
            afterSet := false } } ∧
    exec .rti s =
      .next { b3.2 with
        cycles := s.params.cyc.jsr
        cpu :=
          { s.cpu with
            sp := s.cpu.sp + 3, pc := b3.1 ++ b2.1, afterSet := false
            p :=
              { n := b1.1.getLsbD 7, v := b1.1.getLsbD 6, t := false, d := b1.1.getLsbD 3
                i := b1.1.getLsbD 2, z := b1.1.getLsbD 1, c := b1.1.getLsbD 0 } } } ∧
    ReadsOnly s b2.2 ∧ ReadsOnly s b3.2 ∧ MemoryKept s b3.2

/-- BRK: the address after its two bytes and the status with B = 1 are pushed, I is set, D and T
cleared, and PC comes from the IRQ2 vector, whatever I and the interrupt controller hold; no other byte
of memory changes. Rests on the spec's decision D49. The cost is log 7's reading of R620. -/
def Obligations.BreakEntersVector : Prop :=
  ∀ (sig : Byte) (s : State),
    let s1 := memWrite (stackAddr s.cpu.sp) (hiByte s.cpu.pc) s
    let s2 := memWrite (stackAddr (s.cpu.sp - 1)) (loByte s.cpu.pc) s1
    let s3 := memWrite (stackAddr (s.cpu.sp - 2)) (s.cpu.p.toByte true) s2
    let lo := memRead 0xFFF6 s3
    let hi := memRead 0xFFF7 lo.2
    exec (.brk sig) s =
      .next { hi.2 with
        cycles := s.params.cyc.brk
        cpu :=
          { s.cpu with
            sp := s.cpu.sp - 3, pc := hi.1 ++ lo.1, afterSet := false
            p := { s.cpu.p with i := true, d := false, t := false } } } ∧
      hi.2.irq = s3.irq ∧
      MemoryKeptBut
        [s.place (stackAddr s.cpu.sp), s1.place (stackAddr (s.cpu.sp - 1)),
          s2.place (stackAddr (s.cpu.sp - 2))] s hi.2

/-! ### Flags, speed, mapping, VDC stores -/

/-- The seven flag instructions, SET, CSL, CSH, NOP, WAI and STP: the one thing each sets, and nothing
else but T; SET sets T and AfterSet, the others clear both. The opcodes' details are the spec's
decisions D1, D17 and D19. The cost is log 7's reading of R620. -/
def Obligations.FlagAndModeInstructions : Prop :=
  ∀ s : State,
    let p := { s.cpu.p with t := false }
    let done (k : Nat) (c : Cpu) : Out :=
      .next { s with cycles := k, cpu := { c with afterSet := false } }
    exec .clc s = done s.params.cyc.implied { s.cpu with p := { p with c := false } } ∧
    exec .sec s = done s.params.cyc.implied { s.cpu with p := { p with c := true } } ∧
    exec .cli s = done s.params.cyc.implied { s.cpu with p := { p with i := false } } ∧
    exec .sei s = done s.params.cyc.implied { s.cpu with p := { p with i := true } } ∧
    exec .cld s = done s.params.cyc.implied { s.cpu with p := { p with d := false } } ∧
    exec .sed s = done s.params.cyc.implied { s.cpu with p := { p with d := true } } ∧
    exec .clv s = done s.params.cyc.implied { s.cpu with p := { p with v := false } } ∧
    exec .csl s = done s.params.cyc.swap { s.cpu with speed := .low, p := p } ∧
    exec .csh s = done s.params.cyc.swap { s.cpu with speed := .high, p := p } ∧
    exec .nop s = done s.params.cyc.implied { s.cpu with p := p } ∧
    exec .set s =
      .next { s with
        cycles := s.params.cyc.implied
        cpu := { s.cpu with p := { s.cpu.p with t := true }, afterSet := true } } ∧
    exec .wai s = done s.params.cyc.wait { s.cpu with runState := .waiting, p := p } ∧
    exec .stp s = done s.params.cyc.wait { s.cpu with runState := .stopped, p := p }

/-- TAM writes A to the slot of the lowest 1 bit of its operand and to no other, TMA reads that slot
into A with no flag; with operand 0 TAM writes no slot and TMA leaves any value in A. Operand 0 is the
spec's decision D9. The cost is log 7's reading of R620. -/
def Obligations.MappingRegisterTransfers : Prop :=
  ∀ (nn : Byte) (s : State),
    let c : Cpu := { s.cpu with p := { s.cpu.p with t := false }, afterSet := false }
    (∀ i : Fin 8, nn.getLsbD i = true → (∀ j < i, nn.getLsbD j = false) →
      exec (.tam nn) s =
        .next { s with cycles := s.params.cyc.tam, cpu := c, mpr := s.mpr.set i s.cpu.a } ∧
      exec (.tma nn) s =
        .next { s with cycles := s.params.cyc.tma, cpu := { c with a := s.mpr[i] } }) ∧
    (nn = 0 →
      exec (.tam nn) s = .next { s with cycles := s.params.cyc.tam, cpu := c } ∧
      ∃ v k, exec (.tma nn) s =
        .next { s with cycles := s.params.cyc.tma, draws := k, cpu := { c with a := v } })

/-- ST0, ST1 and ST2 write VDC ports 0, 2 and 3 directly, whatever the slots map, under an alias window too
(log 27); no register but T and no byte of memory changes. Rests on the spec's decision D52. The cost is
log 7's reading of R620. -/
def Obligations.VdcStoresReachPorts : Prop :=
  ∀ (nn : Byte) (s : State),
    let done (u : State) : Out :=
      .next { u with
        cycles := s.params.cyc.vdcStore
        cpu := { s.cpu with p := { s.cpu.p with t := false }, afterSet := false } }
    let w := s.vdc.writeHigh s.params nn
    exec (.st0 nn) s = done { s with vdc := { s.vdc with ar := BitVec.ofNat 5 nn.toNat } } ∧
    exec (.st1 nn) s = done { s with vdc := s.vdc.writeLow nn } ∧
    exec (.st2 nn) s = done { s with
      vdc := w.1, irq := { s.irq with req := if w.2 then s.irq.req ||| 2 else s.irq.req } }

/-! ### Block transfers -/

/-- The five block transfers: one read then one write for each iteration in order, 65536 of them for
length 0, then any three bytes at and below S; the cost by the count; no register and no flag but T
changes. Rests on the spec's decisions D20 and D21; when the three bytes are written is the model's
reading (log 8). -/
def Obligations.BlockTransfersIterate : Prop :=
  ∀ (src dst len : Word) (s : State) (i : Instr) (sa da : Nat → Word),
    (i, sa, da) ∈ blockForms s.params.e3Variant src dst len →
    let n := if len.toNat = 0 then 65536 else len.toNat
    let u := (List.range n).foldl
      (fun w k => memWrite (da k) (memRead (sa k) w).1 (memRead (sa k) w).2) s
    ∃ (b0 b1 b2 : Byte) (k : Nat),
      exec i s =
        .next { memWrite (stackAddr (s.cpu.sp - 2)) b2 (memWrite (stackAddr (s.cpu.sp - 1)) b1
            (memWrite (stackAddr s.cpu.sp) b0 u)) with
          cycles := s.params.btBase + s.params.btPerByte * n
          draws := k
          cpu := { s.cpu with p := { s.cpu.p with t := false }, afterSet := false } }

/-- A block transfer changes no byte of memory but those at its destination addresses and the three
stack bytes, and no slot, where no alias window maps the slots into memory. Rests on the spec's decision
D21 and on log 8. -/
def Obligations.BlockTransferFrame : Prop :=
  ∀ (src dst len : Word) (s t : State) (i : Instr) (sa da : Nat → Word),
    (i, sa, da) ∈ blockForms s.params.e3Variant src dst len → s.params.mprAlias = none →
    exec i s = .next t →
    let n := if len.toNat = 0 then 65536 else len.toNat
    t.mpr = s.mpr ∧ t.rom = s.rom ∧
      ∀ pl : Place, (∀ k < n, s.place (da k) ≠ pl) →
        (∀ j < 3, s.place (stackAddr (s.cpu.sp - BitVec.ofNat 8 j)) ≠ pl) →
        t.byteAt pl = s.byteAt pl

/-- TII from storage to a disjoint run of work RAM copies it: each destination byte takes the value its
source byte had before the transfer. -/
def Obligations.BlockTransferCopies : Prop :=
  ∀ (src dst len : Word) (s t : State) (w : Nat → Nat),
    s.memOk = true → s.params.mprAlias = none → exec (.tii src dst len) s = .next t →
    let n := if len.toNat = 0 then 65536 else len.toNat
    let sp (k : Nat) := s.place (src + BitVec.ofNat 16 k)
    (∀ k < n, (sp k).isStorage = true) →
    (∀ k < n, s.place (dst + BitVec.ofNat 16 k) = .wram (w k)) →
    (∀ j < n, ∀ k < n, w j = w k → j = k) →
    (∀ j < n, ∀ k < n, sp j ≠ .wram (w k)) →
    (∀ k < n, ∀ j < 3, s.place (stackAddr (s.cpu.sp - BitVec.ofNat 8 j)) ≠ .wram (w k)) →
    ∀ k < n, t.byteAt (.wram (w k)) = s.byteAt (sp k)

/-! ### Memory -/

/-- Translation: a byte is read, written or fetched at the physical address whose page is the slot the
top 3 address bits select, as it stands at that access, and whose offset is the low 13 bits; a TAM or
an alias-window write changes where the very next access goes. -/
def Obligations.TranslationUsesSlotsNow : Prop :=
  ∀ (s : State) (b : Byte) (i : Fin 8),
    let phys (pages : Fin 8 → Byte) (a : Word) : Phys :=
      { page := pages ⟨a.toNat / 8192, by have := a.isLt; omega⟩
        offset := BitVec.ofNat 13 (a.toNat % 8192) }
    let now : Fin 8 → Byte := fun j => s.mpr[j]
    let changed (v : Byte) : Fin 8 → Byte := fun j => if j = i then v else s.mpr[j]
    (∀ a, memRead a s = physRead (phys now a) s ∧ memWrite a b s = physWrite (phys now a) b s) ∧
    (fetch s).1 = (physRead (phys now s.cpu.pc) s).1 ∧
    (∃ t, exec (.tam (1#8 <<< i.val)) s = .next t ∧
      (∀ a, memRead a t = physRead (phys (changed s.cpu.a) a) t ∧
        memWrite a b t = physWrite (phys (changed s.cpu.a) a) b t) ∧
      (fetch t).1 = (physRead (phys (changed s.cpu.a) t.cpu.pc) t).1) ∧
    ∀ w, s.place w = .port (.mprAlias i) →
      let t := memWrite w b s
      (∀ a, memRead a t = physRead (phys (changed b) a) t) ∧
        (fetch t).1 = (physRead (phys (changed b) t.cpu.pc) t).1

/-- The physical map: every CPU access reads or writes where its address leads, a device port included;
where every page id leads with the default WRAM_PAGES, which offsets of the hardware page reach which port,
the alias window first, and what the window reads and writes. Rests on the spec's decisions D4, D5, D7, D8
and D51, and on logs 16, 17, 28 and 30. -/
def Obligations.PhysicalMap : Prop :=
  (∀ (s : State) (a : Word) (b : Byte), memRead a s = s.readPlace (s.place a) ∧
    memWrite a b s = s.writePlace (s.place a) b) ∧
  (∀ (s : State) (a : Word), s.params.wramPages = [0xF8, 0xF9, 0xFA, 0xFB] →
    let page := s.mpr[a.toNat / 8192]'(by have := a.isLt; omega)
    let off := a.toNat % 8192
    let bank := s.params.romBankMap[page.toNat]?.getD (page.toNat % s.params.romBanks)
    s.place a =
      if page.toNat < 0x80 then .rom (bank * 8192 + off)
      else if page = 0xF7 then .cart (off % s.params.cartRamSize)
      else if 0xF8 ≤ page.toNat ∧ page.toNat ≤ 0xFB then .wram off
      else if page = 0xFF then hwDecode s.params off
      else .unmapped) ∧
  (∀ (p : Params) (o : Nat), o < 8192 →
    (∀ (base : Nat) (i : Fin 8), p.mprAlias = some base → o = base + i →
      hwDecode p o = .port (.mprAlias i)) ∧
    ((∀ base, p.mprAlias = some base → o < base ∨ base + 7 < o) → hwDecode p o =
      if o < 0x400 ∧ o < p.vdcSpan ∧ o % 4 = 0 then .port .vdcStatus
      else if o < 0x400 ∧ o < p.vdcSpan ∧ o % 4 = 2 then .port .vdcLow
      else if o < 0x400 ∧ o < p.vdcSpan ∧ o % 4 = 3 then .port .vdcHigh
      else if 0x400 ≤ o ∧ o < 0x800 ∧ o % 8 = 0 then .port .vceControl
      else if 0x400 ≤ o ∧ o < 0x800 ∧ o % 8 = 2 then .port .vceAddrLow
      else if 0x400 ≤ o ∧ o < 0x800 ∧ o % 8 = 3 then .port .vceAddrHigh
      else if 0x400 ≤ o ∧ o < 0x800 ∧ o % 8 = 4 then .port .vceDataLow
      else if 0x400 ≤ o ∧ o < 0x800 ∧ o % 8 = 5 then .port .vceDataHigh
      else if 0x800 ≤ o ∧ o < 0xC00 then .port (.psg (BitVec.ofNat 4 (o % 16)))
      else if 0xC00 ≤ o ∧ o < 0x1000 ∧ o % 2 = 0 then .port .timerReload
      else if 0xC00 ≤ o ∧ o < 0x1000 then .port .timerControl
      else if 0x1000 ≤ o ∧ o < 0x1400 then .port .joypad
      else if 0x1400 ≤ o ∧ o < 0x1800 ∧ o % 4 = 2 then .port .irqDisable
      else if 0x1400 ≤ o ∧ o < 0x1800 ∧ o % 4 = 3 then .port .irqStatus
      else .store o)) ∧
  ∀ (s : State) (i : Fin 8) (b : Byte),
    s.readPlace (.port (.mprAlias i)) = (s.mpr[i], s) ∧
      s.writePlace (.port (.mprAlias i)) b = { s with mpr := s.mpr.set i b }

/-- Memory: a read after a write gives the byte written at the same place, through whatever address, and
the byte from before elsewhere; a write to ROM or to an unmapped page changes nothing. Rests on the
spec's decisions D5, D6, D46 and D51. -/
def Obligations.ReadAfterWrite : Prop :=
  ∀ (s : State) (a a' : Word) (b : Byte), s.memOk = true →
    ((∃ k, s.place a = .rom k) ∨ s.place a = .unmapped → memWrite a b s = s) ∧
    ((∃ k, s.place a = .wram k ∨ s.place a = .cart k ∨ s.place a = .store k) →
      (s.place a').isStorage = true →
      memRead a' (memWrite a b s) =
        (if s.place a' = s.place a then b else s.byteAt (s.place a'), memWrite a b s))

/-! ### Timer, interrupt controller, joypad, sound -/

/-- The device advance of c cycles, 3 or 12 master clocks each by the speed. The timer, enabled, counts down
once every 3072 master clocks, goes on at 0 from the reload value and requests, as many times as the ticks
need; disabled, it stays, and no request is made; a count or reload value of 0 takes 128 ticks. The sound
generator's tick, a free value, requests IRQ2. The VDC advances by the master clocks, or by 3 c with
VDC_TIME_UNIT = RawCycles, and requests IRQ1 where it raised an event. Nothing else changes; no part reads
what another writes, so their order cannot be seen. Rests on the spec's decisions D25, D26 and D54; the draw
is logs 2 and 13, the timer's loop as a quotient log 18. -/
def Obligations.DeviceAdvance : Prop :=
  ∀ (s : State) (c : Nat),
    let mc := c * (if s.cpu.speed = .high then 3 else 12)
    let n := (s.timer.prescale + mc) / 3072
    let k := if s.timer.counter = 0 then 128 else s.timer.counter.toNat
    let period := if s.timer.reload = 0 then 128 else s.timer.reload.toNat
    let v := s.vdc.advance s.params s.vce.palette
      (if s.params.vdcTimeUnit = .rawCycles then 3 * c else mc)
    let t := s.advance c
    t = { s with
      timer := t.timer, irq := { s.irq with req := t.irq.req }, vdc := v.1, draws := s.draws + 1 } ∧
    t.irq.req.getLsbD 0 = (s.irq.req.getLsbD 0 || Config.psgRaises s.draws) ∧
    t.irq.req.getLsbD 1 = (s.irq.req.getLsbD 1 || v.2) ∧
    (s.timer.enabled = false →
      t.timer = s.timer ∧ t.irq.req.getLsbD 2 = s.irq.req.getLsbD 2) ∧
    (s.timer.enabled = true →
      t.timer.enabled = true ∧ t.timer.reload = s.timer.reload ∧
      t.timer.prescale = (s.timer.prescale + mc) % 3072 ∧
      (n < k →
        t.timer.counter = s.timer.counter - BitVec.ofNat 7 n ∧
          t.irq.req.getLsbD 2 = s.irq.req.getLsbD 2) ∧
      (k ≤ n →
        t.timer.counter = s.timer.reload - BitVec.ofNat 7 ((n - k) % period) ∧
          t.irq.req.getLsbD 2 = true))

/-- The timer, interrupt-controller, joypad, sound and VDC ports: what each write sets and what each read
answers. A status write clears the timer request alone, whatever is written; the joypad and sound reads
answer what the host and the sound generator give; the VDC's port 0 selects a register, its data ports read
and write the selected register and request IRQ1 where that raised an event (the status read is in
VdcStatusEvents). Rests on the spec's decisions D26, D35, D36 and D45 and on logs 12 and 13. -/
def Obligations.DevicePorts : Prop :=
  ∀ (s : State) (b : Byte) (x : BitVec 4),
    s.writePlace (.port .timerReload) b =
      { s with timer := { s.timer with reload := BitVec.ofNat 7 b.toNat } } ∧
    s.readPlace (.port .timerReload) = (s.timer.counter.zeroExtend 8, s) ∧
    s.writePlace (.port .timerControl) b =
      { s with
        timer :=
          if b.toNat % 2 = 0 then { s.timer with enabled := false }
          else if s.timer.enabled then s.timer
          else { s.timer with enabled := true, counter := s.timer.reload, prescale := 0 } } ∧
    s.readPlace (.port .timerControl) = (if s.timer.enabled then 1 else 0, s) ∧
    s.writePlace (.port .irqDisable) b =
      { s with irq := { s.irq with mask := BitVec.ofNat 3 b.toNat } } ∧
    s.readPlace (.port .irqDisable) = (s.irq.mask.zeroExtend 8, s) ∧
    s.writePlace (.port .irqStatus) b =
      { s with irq := { s.irq with req := s.irq.req &&& 3 } } ∧
    s.readPlace (.port .irqStatus) = (s.irq.req.zeroExtend 8, s) ∧
    s.writePlace (.port .joypad) b =
      { s with pad := { sel := decide (b.toNat % 2 = 1), clr := decide (b.toNat / 2 % 2 = 1) } } ∧
    (∃ held : Byte,
      let nib := if s.pad.clr then 0 else
        15 - (if s.pad.sel then held.toNat % 16 else held.toNat / 16)
      (s.readPlace (.port .joypad)).1.toNat =
        nib + 48 + 64 * s.params.regionBit.toNat + 128 * s.params.cdBit.toNat) ∧
    (s.readPlace (.port .joypad)).2 = { s with draws := s.draws + 1 } ∧
    s.writePlace (.port (.psg x)) b = { s with psgWrites := (x, b) :: s.psgWrites } ∧
    (∃ v, s.readPlace (.port (.psg x)) = (v, { s with draws := s.draws + 1 })) ∧
    s.writePlace (.port .vdcStatus) b =
      { s with vdc := { s.vdc with ar := BitVec.ofNat 5 b.toNat } } ∧
    s.readPlace (.port .vdcLow) = (s.vdc.readLow, s) ∧
    s.writePlace (.port .vdcLow) b = { s with vdc := s.vdc.writeLow b } ∧
    s.readPlace (.port .vdcHigh) =
      ((s.vdc.readHigh s.params).1, { s with vdc := (s.vdc.readHigh s.params).2 }) ∧
    let high := s.vdc.writeHigh s.params b
    s.writePlace (.port .vdcHigh) b =
      { s with
        vdc := high.1
        irq := { s.irq with req := if high.2 then s.irq.req ||| 2 else s.irq.req } }

/-! ### Video -/

/-- VDC data writes by the register number: with number $02 the low byte is latched and the high byte
completes a VRAM word write and steps MAWR; on a defined register the low or high byte is replaced, and
then BYR sets BgY, a high byte of MARR refills the read latch, of LENR runs the VRAM DMA, of DVSSR arms
the SAT DMA; other numbers ignore writes. -/
def Obligations.VdcDataWrites : Prop :=
  ∀ (p : Params) (v : Vdc) (b : Byte),
    let inc := BitVec.ofNat 16 ([1, 32, 64, 128].getD (v.cr.toNat / 2048 % 4) 0)
    (v.ar = 0x02 →
      v.writeLow b = { v with wLatch := b } ∧
      v.writeHigh p b =
        ({ v.vramWrite p v.mawr (b ++ v.wLatch) with mawr := v.mawr + inc }, false)) ∧
    (∀ r : VdcReg, v.ar.toNat = r.number →
      ∃ lo hi : Vdc,
        v.RegisterSet r (hiByte (v.reg r) ++ b) lo ∧ v.RegisterSet r (b ++ loByte (v.reg r)) hi ∧
        v.writeLow b = (if r = .byr then { lo with bgY := BitVec.ofNat 9 lo.byr.toNat } else lo) ∧
        v.writeHigh p b =
          if r = .marr then ({ hi with rLatch := hi.vramRead p hi.marr }, false)
          else if r = .byr then ({ hi with bgY := BitVec.ofNat 9 hi.byr.toNat }, false)
          else if r = .lenr then hi.vramDma p
          else if r = .dvssr then ({ hi with satPending := true }, false)
          else (hi, false)) ∧
    (v.ar ≠ 0x02 → (∀ r : VdcReg, v.ar.toNat ≠ r.number) →
      v.writeLow b = v ∧ v.writeHigh p b = (v, false))

/-- VDC data reads and VRAM: with number $02 the reads give the latch and the high one steps MARR by 1, 32,
64 or 128 and refills it; a defined register answers its bytes with no effect, other numbers answer 0. A
VRAM write changes its one word; past VRAM_WORDS writes are ignored and reads give 0. Rests on the spec's
decisions D37 and D58. -/
def Obligations.VdcDataReads : Prop :=
  ∀ (p : Params) (v : Vdc),
    let next := v.marr + BitVec.ofNat 16 ([1, 32, 64, 128].getD (v.cr.toNat / 2048 % 4) 0)
    (v.ar = 0x02 →
      v.readLow = loByte v.rLatch ∧
      v.readHigh p = (hiByte v.rLatch, { v with marr := next, rLatch := v.vramRead p next })) ∧
    (∀ r : VdcReg, v.ar.toNat = r.number →
      v.readLow = loByte (v.reg r) ∧ v.readHigh p = (hiByte (v.reg r), v)) ∧
    (v.ar ≠ 0x02 → (∀ r : VdcReg, v.ar.toNat ≠ r.number) →
      v.readLow = 0 ∧ v.readHigh p = (0, v)) ∧
    ∀ a w : Word, Store.wf 0 v.vram = true →
      let t := v.vramWrite p a w
      t = { v with vram := t.vram } ∧
      ∀ x : Word, t.vramRead p x =
        if p.vramWords ≤ x.toNat then 0 else if x = a then w else Store.get 0 v.vram x.toNat

/-- The two DMAs. A VRAM DMA copies LENR + 1 words one at a time in order, each address going up or down as
DCR says, so overlapping ranges propagate; the addresses end past the ranges, LENR at $FFFF, and with its
enable set it raises DV and IRQ1. Upwards between disjoint ranges inside VRAM, the destination holds what the
source held. The SAT DMA, when armed or repeating, copies the 256 words from DVSSR on, disarms itself, and
with its enable set raises DS and IRQ1; otherwise it does nothing. Nothing else changes in either. Rests on
the spec's decisions D38 and D39. -/
def Obligations.DmaCopies : Prop :=
  (∀ (p : Params) (v : Vdc),
    let n := v.lenr.toNat + 1
    let r := v.vramDma p
    let stepped (down : Bool) (a : Word) (k : Nat) : Word :=
      if down then a - BitVec.ofNat 16 k else a + BitVec.ofNat 16 k
    let src (k : Nat) : Word := stepped (v.dcr.getLsbD 2) v.sour k
    let dst (k : Nat) : Word := stepped (v.dcr.getLsbD 3) v.desr k
    let copied := (List.range n).foldl (fun w k => w.vramWrite p (dst k) (w.vramRead p (src k))) v
    r =
        ({ v with
          vram := copied.vram, sour := src n, desr := dst n, lenr := 0xFFFF
          lastDmaSrc := v.sour, lastDmaDst := v.desr, lastDmaLen := n
          vramDmaCount := v.vramDmaCount + 1
          st := if v.dcr.getLsbD 1 then v.st ||| 16 else v.st }, v.dcr.getLsbD 1) ∧
      (Store.wf 0 v.vram = true → v.dcr.getLsbD 2 = false → v.dcr.getLsbD 3 = false →
        v.sour.toNat + n ≤ p.vramWords → v.desr.toNat + n ≤ p.vramWords →
        v.sour.toNat + n ≤ 65536 → v.desr.toNat + n ≤ 65536 →
        v.sour.toNat + n ≤ v.desr.toNat ∨ v.desr.toNat + n ≤ v.sour.toNat →
        ∀ a, r.1.vramAt p a =
          if v.desr.toNat ≤ a ∧ a < v.desr.toNat + n then v.vramAt p (v.sour.toNat + (a - v.desr.toNat))
          else v.vramAt p a)) ∧
  ∀ (p : Params) (v : Vdc),
    let r := v.satDma p
    (v.satPending = false → v.dcr.getLsbD 4 = false → r = (v, false)) ∧
    (v.satPending = true ∨ v.dcr.getLsbD 4 = true →
      r =
          ({ v with
            sat := r.1.sat, satPending := false, satDmaCount := v.satDmaCount + 1
            lastDmaSrc := v.dvssr, lastDmaLen := 256
            st := if v.dcr.getLsbD 0 then v.st ||| 8 else v.st }, v.dcr.getLsbD 0) ∧
        (Store.wf 0 v.sat = true → ∀ i,
          Store.get 0 r.1.sat i =
            if i < 256 then v.vramRead p (v.dvssr + BitVec.ofNat 16 i) else Store.get 0 v.sat i))

/-- A status event sets its bit and requests IRQ1 exactly if its enable is set; reading the status byte
answers the bits, clears them, and leaves the IRQ1 request. Rests on the spec's decisions D28 and D37.
-/
def Obligations.VdcStatusEvents : Prop :=
  (∀ (v : Vdc) (e : VdcEvent) (k : Nat) (en : Bool),
    (e, k, en) ∈
      [(.collision, 0, v.cr.getLsbD 0), (.overflow, 1, v.cr.getLsbD 1), (.raster, 2, v.cr.getLsbD 2),
        (.satDma, 3, v.dcr.getLsbD 0), (.vramDma, 4, v.dcr.getLsbD 1),
        (.vblank, 5, v.cr.getLsbD 3)] →
    v.raise e = ({ v with st := if en then v.st ||| BitVec.ofNat 6 (2 ^ k) else v.st }, en)) ∧
  (∀ (s : State) (r : Vdc × Bool), s.vdcAct r =
    { s with vdc := r.1, irq := { s.irq with req := if r.2 then s.irq.req ||| 2 else s.irq.req } }) ∧
  ∀ s : State, s.readPlace (.port .vdcStatus) =
    (BitVec.ofNat 8 s.vdc.st.toNat, { s with vdc := { s.vdc with st := 0 } })

/-- The VDC's time. An advance that stays inside the line moves the clock alone. One that passes the line's
end ends the line, goes to the next line mod LINES_PER_FRAME, and starts it: at line 0 the frame becomes the
last frame; BgY is set to BYR on the first active line and steps on the later ones; raster compare raises RR;
on the vertical-blank line VD is raised and then the SAT DMA runs; then the advance goes on with what is left
of the clocks. The end of a line that is not active does nothing. Rests on the spec's decisions D41 and D42;
the loop as a quotient is log 18, the raster counter's residue log 23. -/
def Obligations.VdcAdvanceByLines : Prop :=
  ∀ (p : Params) (pal : Store (BitVec 9)) (m : Nat) (v : Vdc),
    (v.clock + m < 1365 → v.advance p pal m = ({ v with clock := v.clock + m }, false)) ∧
    (1365 ≤ v.clock + m →
      let v0 := { v with clock := v.clock + m - 1365 }
      let start := v.vpr.toNat % 32 + v.vpr.toNat / 256 + 3
      let stop := min (start + v.vdw.toNat % 512 + 1) p.linesPerFrame
      let ended := Vdc.endOfLine p pal v.line v0
      let l := (v.line + 1) % p.linesPerFrame
      let w : Vdc :=
        { ended.1 with
          line := l
          lastFrame := if l = 0 then ended.1.frame else v.lastFrame
          bgY :=
            if l = start then BitVec.ofNat 9 v.byr.toNat
            else if start ≤ l ∧ l < stop then v.bgY + 1
            else v.bgY }
      let count := 64 + (((l : Int) - start) % p.linesPerFrame).toNat
      let raster := if count = v.rcr.toNat % 1024 then w.raise .raster else (w, false)
      let blank : Vdc × Bool :=
        if l = min stop (p.linesPerFrame - 1) then raster.1.raise .vblank else (raster.1, false)
      let copied : Vdc × Bool :=
        if l = min stop (p.linesPerFrame - 1) then blank.1.satDma p else (blank.1, false)
      let rest := copied.1.advance p pal 0
      (¬ (start ≤ v.line ∧ v.line < stop) → ended = (v0, false)) ∧
      v.advance p pal m = (rest.1, ended.2 || raster.2 || blank.2 || copied.2 || rest.2))

/-- The colour encoder: the control write, the two address writes, the low data write that changes the entry
at once, the high one that also steps CTA mod 512, what each of these leaves alone, and every read. Rests on
the spec's decisions D35 and D44. -/
def Obligations.PaletteLatch : Prop :=
  ∀ (s : State) (b : Byte), Store.wf 0 s.vce.palette = true →
    let e := Store.get 0 s.vce.palette s.vce.cta.toNat
    let keeping (v : Vce) : State := { s with vce := v }
    let addrLow := s.writePlace (.port .vceAddrLow) b
    let addrHigh := s.writePlace (.port .vceAddrHigh) b
    let low := s.writePlace (.port .vceDataLow) b
    let high := s.writePlace (.port .vceDataHigh) b
    s.writePlace (.port .vceControl) b = keeping { s.vce with cr := b } ∧
    addrLow = keeping { s.vce with cta := addrLow.vce.cta } ∧
    addrLow.vce.cta.toNat = s.vce.cta.toNat / 256 * 256 + b.toNat ∧
    addrHigh = keeping { s.vce with cta := addrHigh.vce.cta } ∧
    addrHigh.vce.cta.toNat = b.toNat % 2 * 256 + s.vce.cta.toNat % 256 ∧
    low = keeping { s.vce with palette := low.vce.palette } ∧
    high = keeping { s.vce with palette := high.vce.palette, cta := high.vce.cta } ∧
    high.vce.cta.toNat = (s.vce.cta.toNat + 1) % 512 ∧
    (∀ n, (Store.get 0 low.vce.palette n).toNat =
      if n = s.vce.cta.toNat then e.toNat / 256 * 256 + b.toNat
      else (Store.get 0 s.vce.palette n).toNat) ∧
    (∀ n, (Store.get 0 high.vce.palette n).toNat =
      if n = s.vce.cta.toNat then b.toNat % 2 * 256 + e.toNat % 256
      else (Store.get 0 s.vce.palette n).toNat) ∧
    s.readPlace (.port .vceControl) = (0xFF, s) ∧
    s.readPlace (.port .vceAddrLow) = (BitVec.ofNat 8 s.vce.cta.toNat, s) ∧
    s.readPlace (.port .vceAddrHigh) = (BitVec.ofNat 8 (254 + s.vce.cta.toNat / 256), s) ∧
    s.readPlace (.port .vceDataLow) = (BitVec.ofNat 8 e.toNat, s) ∧
    s.readPlace (.port .vceDataHigh) =
      (BitVec.ofNat 8 (254 + e.toNat / 256), keeping { s.vce with cta := s.vce.cta + 1 })

/-- Sprite selection on a row: the selected entries are the longest run of first covering ones in SAT order
that takes at most 16 cells, and the row overflows exactly if the covering entries need more. Rests on the
spec's decision D43. -/
def Obligations.SpriteSelectionFitsSixteenCells : Prop :=
  ∀ (y : Nat) (es : List Sprite),
    let r := selectSprites y es 0
    let all := es.filter fun e => decide (e.y ≤ y + 64 ∧ y + 64 < e.y + e.height)
    let cells (l : List Sprite) := (l.map fun e => e.width / 16).sum
    r.1 <+: all ∧ cells r.1 ≤ 16 ∧ (r.2 = true ↔ 16 < cells all) ∧ (r.2 = false → r.1 = all) ∧
      (r.2 = true → ∃ e, r.1 ++ [e] <+: all ∧ 16 < cells (r.1 ++ [e]))

/-- The pixel formats: the background pixel from the map entry and the four planes of its tile, the fields
of a sprite entry, the colour of a covering sprite from its cell and that cell's four planes, flips
included, and the sprite pixel shown as the first opaque one. Rests on the spec's decision D43. -/
def Obligations.PixelFormats : Prop :=
  ∀ (p : Params) (v : Vdc),
    let plane (word bit : Nat) : Nat := (v.vramAt p word).toNat / 2 ^ bit % 2
    (∀ (s : Snapshot) (x : Nat),
      let mw := [32, 64, 128, 128].getD (v.mwr.toNat / 16 % 4) 0
      let mh := if v.mwr.toNat / 64 % 2 = 1 then 64 else 32
      let px := (s.bxr.toNat + x) % (mw * 8)
      let py := s.bgY.toNat % (mh * 8)
      let e := (v.vramAt p (py / 8 * mw + px / 8)).toNat
      let word := e % 4096 * 16 + py % 8
      let c := px % 8
      let k := plane word (7 - c) + 2 * plane word (15 - c) + 4 * plane (word + 8) (7 - c)
        + 8 * plane (word + 8) (15 - c)
      v.bgPixel p s x = if s.bb = false ∨ k = 0 then none else some (e / 4096 * 16 + k)) ∧
    (∀ j : Nat,
      let w (i : Nat) : Nat := (Store.get 0 v.sat (4 * j + i)).toNat
      v.sprite j =
        { index := j, y := w 0 % 1024, x := w 1 % 1024, pattern := w 2 / 2 % 1024
          palette := w 3 % 16, front := decide (w 3 / 128 % 2 = 1)
          width := if w 3 / 256 % 2 = 1 then 32 else 16
          height := [16, 32, 64, 64].getD (w 3 / 4096 % 4) 0
          xFlip := decide (w 3 / 2048 % 2 = 1), yFlip := decide (w 3 / 32768 = 1) }) ∧
    (∀ j y x : Nat,
      let e := v.sprite j
      e.y ≤ y + 64 → y + 64 < e.y + e.height →
      let dx := x + 32 - e.x
      let dy := y + 64 - e.y
      let cx := if e.xFlip then e.width / 16 - 1 - dx / 16 else dx / 16
      let cy := if e.yFlip then e.height / 16 - 1 - dy / 16 else dy / 16
      let c := if e.xFlip then 15 - dx % 16 else dx % 16
      let r := if e.yFlip then 15 - dy % 16 else dy % 16
      let pn := e.pattern / 8 * 8 + (if e.height = 64 then 0 else e.pattern / 4 % 2 * 4)
        + (if e.height = 16 then e.pattern / 2 % 2 * 2 else 0)
        + (if e.width = 32 then 0 else e.pattern % 2)
      let word := (pn + cx + 2 * cy) * 64 + r
      v.spriteColour p e y x =
        if e.x ≤ x + 32 ∧ x + 32 < e.x + e.width then
          plane word (15 - c) + 2 * plane (word + 16) (15 - c) + 4 * plane (word + 32) (15 - c)
            + 8 * plane (word + 48) (15 - c)
        else 0) ∧
    ∀ (y x : Nat) (sel : List Sprite),
      v.spritePixel p y x sel =
        (sel.find? fun e => decide (v.spriteColour p e y x ≠ 0)).map fun e =>
          (e.front, 256 + e.palette * 16 + v.spriteColour p e y x)

/-- The end of an active line: its scroll record is taken then; the row has W colours, each the palette
entry the composition rule picks, and with SB = BB = 0 all are entry 0; overflow is raised where the line's
sprite selection overflows, collision where an opaque pixel of entry 0 meets one of another selected sprite;
nothing else changes. Rests on the spec's decisions D40, D42 and D43 and on logs 9 and 10. -/
def Obligations.ActiveLineRenders : Prop :=
  ∀ (p : Params) (pal : Store (BitVec 9)) (v : Vdc) (l : Nat),
    let start := v.vpr.toNat % 32 + v.vpr.toNat / 256 + 3
    start ≤ l → l < min (start + v.vdw.toNat % 512 + 1) p.linesPerFrame →
    Store.wf default v.snap = true → Store.wf [] v.frame = true →
    let snap : Snapshot :=
      { bxr := BitVec.ofNat 10 v.bxr.toNat, bgY := v.bgY, sb := v.cr.getLsbD 6
        bb := v.cr.getLsbD 7 }
    let t := v.endOfLine p pal l
    let w := (v.hdr.toNat % 128 + 1) * 8
    let y := l - start
    let row := Store.get [] t.1.frame y
    let picked := selectSprites y ((List.range 64).map v.sprite) 0
    let sel := if snap.sb then picked.1 else []
    let overflow : Prop := snap.sb = true ∧ picked.2 = true ∧ v.cr.getLsbD 1 = true
    let collision : Prop :=
      v.cr.getLsbD 0 = true ∧ ∃ x < w, ∃ e ∈ sel, ∃ f ∈ sel, e.index = 0 ∧ f.index ≠ 0 ∧
        v.spriteColour p e y x ≠ 0 ∧ v.spriteColour p f y x ≠ 0
    t.1 = { v with st := t.1.st, snap := t.1.snap, frame := t.1.frame } ∧
      (∀ n, Store.get default t.1.snap n = if n = l then snap else Store.get default v.snap n) ∧
      (∀ n, n ≠ y → Store.get [] t.1.frame n = Store.get [] v.frame n) ∧
      row.length = w ∧
      (∀ x < w, row[x]? = some (Store.get 0 pal
        (match v.spritePixel p y x sel, v.bgPixel p snap x with
          | some (true, i), _ => i
          | some (false, i), none => i
          | some (false, _), some j => j
          | none, some j => j
          | none, none => 0))) ∧
      (snap.sb = false → snap.bb = false → row = List.replicate w (Store.get 0 pal 0)) ∧
      (t.2 = true ↔ overflow ∨ collision) ∧
      ∀ k < 6, t.1.st.getLsbD k = true ↔
        v.st.getLsbD k = true ∨ (k = 1 ∧ overflow) ∨ (k = 0 ∧ collision)

/-! ### Reset -/

/-- Reset does not change the cartridge image, ROM_BANKS or any parameter, whatever values it leaves in the
registers it does not specify; and a load whose image has no whole ROM bank is refused, so that a loaded
machine has at least one. That ROM_BANKS counts the whole banks of an image whose length is no multiple of
8192 is the model's choice (log 31). -/
def Obligations.ResetKeepsCartridge : Prop :=
  (∀ (s : State) (u : Nat → Word),
    (resetSequence u s).rom = s.rom ∧ (resetSequence u s).params = s.params ∧
      (hostReset s).rom = s.rom ∧ (hostReset s).params = s.params) ∧
  ∀ (u : Nat → Word) (p : Params) (image : List Byte),
    (image.length / 8192 = 0 → powerOn u p image = .error .zeroRomBanks) ∧
    ∀ t, powerOn u p image = .ok t →
      t.params = { p with romBanks := image.length / 8192 } ∧ 1 ≤ t.params.romBanks ∧
        ∀ k (h : k < image.length), t.rom.get k = image[k]

/-- The host's reset, from any state: the CPU, interrupt, timer and VDC values the reset sequence gives,
the boot bank in slot 7 and BOOT_MAP's pages in the others, PC from the reset vector through it; what the
sequence does not write stays as it was. A primed stack, where BOOT_MAP maps slot 1 to RAM as it must, has
its bytes from the address above S on and S itself; else no byte of memory changes. Rests on the spec's
decisions D33, D34 and D59; the VDC port state and the buffers kept are log 14, a stack primed elsewhere is
log 29, ROM_BANK_MAP's list form log 16. -/
def Obligations.HostResetSequence : Prop :=
  ∀ s : State, s.params.bootBank.toNat < 128 →
    (s.params.bootStackPrime = none ∨ ∃ m page, s.params.bootMap = some m ∧ m[1]? = some page ∧
      (page = 0xF7 ∨ page ∈ s.params.wramPages ∧ 0x80 ≤ page.toNat ∧ page ≠ 0xFF)) →
    let t := hostReset s
    let boot := s.params.bootBank.toNat
    let k := s.params.romBankMap[boot]?.getD (boot % s.params.romBanks) * 8192
    (t.cpu.p.t = false ∧ t.cpu.p.d = false ∧ t.cpu.p.i = true ∧ t.cpu.speed = .low ∧
      t.cpu.runState = .running ∧ t.cpu.afterSet = false ∧ t.cpu.nmiPending = false ∧
      t.irq.req = 0 ∧ t.timer.enabled = false ∧ t.timer.prescale = 0) ∧
    t.mpr[7] = s.params.bootBank ∧
    (∀ (m : List Byte) (i : Fin 7) (page : Byte), s.params.bootMap = some m →
      m[i.val]? = some page → t.mpr[i.val] = page) ∧
    t.cpu.pc = s.rom.get (k + 0x1FFF) ++ s.rom.get (k + 0x1FFE) ∧
    (t.vdc.st = 0 ∧ t.vdc.satPending = false ∧ t.vdc.clock = 0 ∧ t.vdc.line = 0 ∧
      t.vdc.vramDmaCount = 0 ∧ t.vdc.satDmaCount = 0) ∧
    (t.vdc.ar = s.vdc.ar ∧ t.vdc.wLatch = s.vdc.wLatch ∧ t.vdc.vram = s.vdc.vram ∧
      t.vdc.sat = s.vdc.sat ∧ t.vdc.snap = s.vdc.snap ∧ t.vdc.frame = s.vdc.frame ∧
      t.vdc.lastFrame = s.vdc.lastFrame ∧ t.vce.palette = s.vce.palette ∧ t.params = s.params) ∧
    (s.params.bootStackPrime = none → MemoryKept s t) ∧
    ∀ (s0 : Byte) (bytes : List Byte), s.params.bootStackPrime = some (s0, bytes) →
      let at' (j : Nat) : Place := t.place (stackAddr (s0 + 1 + BitVec.ofNat 8 j))
      t.cpu.sp = s0 ∧
      MemoryKeptBut ((List.range bytes.length).map at') s t ∧
      (s.memOk = true → ∀ j (h : j < bytes.length),
        (∀ j', j < j' → j' < bytes.length → at' j' ≠ at' j) → t.byteAt (at' j) = bytes[j])

/-- The state the model starts from is well formed, and it is what the reset sequence leaves of a machine
with no cartridge image, with 0 for every value the reset rules leave unspecified (the model's choice, logs
3, 4 and 5). -/
def Obligations.StartStateIsAfterReset : Prop :=
  State.reset.inv = true ∧
    State.reset = resetSequence (fun _ => 0) (beforeReset Params.default []) ∧
    State.reset.cpu.p.i = true ∧ State.reset.cpu.p.d = false ∧ State.reset.cpu.p.t = false ∧
    State.reset.cpu.runState = .running ∧ State.reset.cpu.speed = .low ∧
    State.reset.mpr[7] = 0x00 ∧ State.reset.irq.req = 0 ∧ State.reset.timer.enabled = false
end

