-- ==== Sys2Proof/Laws/Memory.lean ====
section
/-! SUPPORT. Sparse storage: reads after writes, the canonical form and its uniqueness. -/

namespace Sys2Proof.Machine

variable {α : Type}

theorem Store.get_set_other [DecidableEq α] (d v : α) {j k : Nat} (h : j ≠ k) (l : Store α) :
    Store.get d (Store.set d l k v) j = Store.get d l j := by
  induction l with
  | nil => by_cases hv : v = d <;> simp [Store.set, Store.get, hv, h.symm]
  | cons e r ih =>
    obtain ⟨k', v'⟩ := e
    unfold Store.set
    split
    · split <;> simp [Store.get, h.symm]
    · split
      · subst_vars
        split <;> simp [Store.get, h.symm]
      · simp [Store.get, ih]

theorem Store.get_of_wfFrom_lt [DecidableEq α] {d : α} {n k : Nat} (hk : k < n) {l : Store α}
    (h : Store.wfFrom d n l = true) : Store.get d l k = d := by
  induction l generalizing n with
  | nil => rfl
  | cons e r ih =>
    obtain ⟨k', v'⟩ := e
    simp only [Store.wfFrom, Bool.and_eq_true, decide_eq_true_eq] at h
    have hne : k' ≠ k := by omega
    simp only [Store.get, hne, if_false]
    exact ih (n := k' + 1) (by omega) h.2

theorem Store.get_set_same_from [DecidableEq α] {d : α} (v : α) (k : Nat) {n : Nat} {l : Store α}
    (h : Store.wfFrom d n l = true) : Store.get d (Store.set d l k v) k = v := by
  induction l generalizing n with
  | nil => by_cases hv : v = d <;> simp [Store.set, Store.get, hv]
  | cons e r ih =>
    obtain ⟨k', v'⟩ := e
    simp only [Store.wfFrom, Bool.and_eq_true, decide_eq_true_eq] at h
    unfold Store.set
    split
    · rename_i hlt
      by_cases hv : v = d
      · have hne : k' ≠ k := by omega
        simp only [hv, if_true, Store.get, hne, if_false]
        exact Store.get_of_wfFrom_lt (n := k' + 1) (by omega) h.2
      · simp [hv, Store.get]
    · rename_i hlt
      by_cases heq : k' = k
      · by_cases hv : v = d
        · simp only [heq, hv, if_true]
          exact Store.get_of_wfFrom_lt (n := k' + 1) (by omega) h.2
        · simp [heq, hv, Store.get]
      · simp only [heq, if_false, Store.get]
        exact ih h.2

theorem Store.wfFrom_mono [DecidableEq α] {d : α} {m n : Nat} (hmn : m ≤ n) {l : Store α}
    (h : Store.wfFrom d n l = true) : Store.wfFrom d m l = true := by
  cases l with
  | nil => rfl
  | cons e r =>
    simp only [Store.wfFrom, Bool.and_eq_true, decide_eq_true_eq] at h ⊢
    exact ⟨⟨by omega, h.1.2⟩, h.2⟩

theorem Store.wfFrom_set [DecidableEq α] {d : α} (v : α) {n k : Nat} (hk : n ≤ k) {l : Store α}
    (h : Store.wfFrom d n l = true) : Store.wfFrom d n (Store.set d l k v) = true := by
  induction l generalizing n with
  | nil => by_cases hv : v = d <;> simp [Store.set, Store.wfFrom, hv, hk]
  | cons e r ih =>
    obtain ⟨k', v'⟩ := e
    have h0 := h
    simp only [Store.wfFrom, Bool.and_eq_true, decide_eq_true_eq] at h
    unfold Store.set
    split
    · split
      · exact h0
      · rename_i hlt hv
        simp only [Store.wfFrom, Bool.and_eq_true, decide_eq_true_eq]
        exact ⟨⟨hk, hv⟩, ⟨by omega, h.1.2⟩, h.2⟩
    · split
      · split
        · exact Store.wfFrom_mono (by omega) h.2
        · rename_i heq hv
          simp only [Store.wfFrom, Bool.and_eq_true, decide_eq_true_eq]
          exact ⟨⟨hk, hv⟩, heq ▸ h.2⟩
      · simp only [Store.wfFrom, Bool.and_eq_true, decide_eq_true_eq]
        exact ⟨h.1, ih (by omega) h.2⟩

/-- Reading a key after writing it, in a canonical store. -/
theorem Store.get_set_same [DecidableEq α] {d : α} (v : α) (k : Nat) {l : Store α}
    (h : Store.wf d l = true) : Store.get d (Store.set d l k v) k = v :=
  Store.get_set_same_from v k h

/-- A write keeps the canonical form. -/
theorem Store.wf_set [DecidableEq α] {d : α} (v : α) (k : Nat) {l : Store α}
    (h : Store.wf d l = true) : Store.wf d (Store.set d l k v) = true :=
  Store.wfFrom_set v (Nat.zero_le k) h

/-- A write below the bound keeps every key below it. -/
theorem Store.below_set [DecidableEq α] {d v : α} {n k : Nat} (hk : k < n) {l : Store α}
    (h : Store.below n l = true) : Store.below n (Store.set d l k v) = true := by
  induction l with
  | nil => by_cases hv : v = d <;> simp [Store.set, Store.below, hv, hk]
  | cons e r ih =>
    obtain ⟨k', v'⟩ := e
    simp only [Store.below, List.all_cons, Bool.and_eq_true, decide_eq_true_eq] at h ih
    unfold Store.set
    split
    · split <;> simp [Store.below, h.1, hk, h.2]
    · split
      · split
        · simpa [Store.below] using h.2
        · simp only [Store.below, List.all_cons, Bool.and_eq_true, decide_eq_true_eq]
          exact ⟨hk, h.2⟩
      · simp only [Store.below, List.all_cons, Bool.and_eq_true, decide_eq_true_eq]
        exact ⟨h.1, ih h.2⟩

/-- Two canonical stores that read alike are the same list. -/
theorem Store.ext_from [DecidableEq α] {d : α} {n : Nat} {l m : Store α}
    (hl : Store.wfFrom d n l = true) (hm : Store.wfFrom d n m = true)
    (h : ∀ k, Store.get d l k = Store.get d m k) : l = m := by
  induction l generalizing n m with
  | nil =>
    cases m with
    | nil => rfl
    | cons e r =>
      obtain ⟨k, v⟩ := e
      simp only [Store.wfFrom, Bool.and_eq_true, decide_eq_true_eq] at hm
      exact absurd (by simpa [Store.get] using (h k).symm) hm.1.2
  | cons e r ih =>
    obtain ⟨k, v⟩ := e
    cases m with
    | nil =>
      simp only [Store.wfFrom, Bool.and_eq_true, decide_eq_true_eq] at hl
      exact absurd (by simpa [Store.get] using h k) hl.1.2
    | cons e' r' =>
      obtain ⟨k', v'⟩ := e'
      simp only [Store.wfFrom, Bool.and_eq_true, decide_eq_true_eq] at hl hm
      have hk : k = k' := by
        rcases Nat.lt_trichotomy k k' with hlt | heq | hgt
        · have h1 := h k
          have hne : k' ≠ k := by omega
          simp only [Store.get, if_true, hne, if_false] at h1
          rw [Store.get_of_wfFrom_lt (n := k' + 1) (by omega) hm.2] at h1
          exact absurd h1 hl.1.2
        · exact heq
        · have h1 := h k'
          have hne : k ≠ k' := by omega
          simp only [Store.get, if_true, hne, if_false] at h1
          rw [Store.get_of_wfFrom_lt (n := k + 1) (by omega) hl.2] at h1
          exact absurd h1.symm hm.1.2
      subst hk
      have hv : v = v' := by simpa [Store.get] using h k
      subst hv
      refine congrArg _ (ih hl.2 hm.2 fun j => ?_)
      rcases Nat.lt_or_ge k j with hj | hj
      · simpa [Store.get, Nat.ne_of_lt hj] using h j
      · rw [Store.get_of_wfFrom_lt (n := k + 1) (by omega) hl.2,
          Store.get_of_wfFrom_lt (n := k + 1) (by omega) hm.2]

/-- The canonical form is unique. -/
theorem Store.ext_of_wf [DecidableEq α] {d : α} {l m : Store α} (hl : Store.wf d l = true)
    (hm : Store.wf d m = true) (h : ∀ k, Store.get d l k = Store.get d m k) : l = m :=
  Store.ext_from hl hm h

/-! ### Byte memories -/

@[simp] theorem Memory.get_set_same (b : Byte) (k : Nat) {m : Memory} (h : m.wf = true) :
    (m.set k b).get k = b := Store.get_set_same b k h

@[simp] theorem Memory.get_set_other (b : Byte) {j k : Nat} (h : j ≠ k) (m : Memory) :
    (m.set k b).get j = m.get j := Store.get_set_other unlistedByte b h m

theorem Memory.wf_set (b : Byte) (k : Nat) {m : Memory} (h : m.wf = true) :
    (m.set k b).wf = true := Store.wf_set b k h

theorem Memory.below_set (b : Byte) {n k : Nat} (hk : k < n) {m : Memory}
    (h : Store.below n m = true) : Store.below n (m.set k b) = true :=
  Store.below_set (d := unlistedByte) hk h

@[simp] theorem Memory.get_nil (k : Nat) : Memory.get [] k = unlistedByte := rfl

end Sys2Proof.Machine
end

