-- ==== Sys2Proof/Laws/State.lean ====
section
/-! SUPPORT. One lemma per field per update of State, each true by rfl and tagged simp, so that no later
proof unfolds a record update. -/

namespace Sys2Proof.Machine

variable (s : State)

/-! #### setA -/

@[simp] theorem State.setA_a (v : Byte) : (s.setA v).cpu.a = v := rfl
@[simp] theorem State.setA_x (v : Byte) : (s.setA v).cpu.x = s.cpu.x := rfl
@[simp] theorem State.setA_y (v : Byte) : (s.setA v).cpu.y = s.cpu.y := rfl
@[simp] theorem State.setA_sp (v : Byte) : (s.setA v).cpu.sp = s.cpu.sp := rfl
@[simp] theorem State.setA_pc (v : Byte) : (s.setA v).cpu.pc = s.cpu.pc := rfl
@[simp] theorem State.setA_p (v : Byte) : (s.setA v).cpu.p = s.cpu.p := rfl
@[simp] theorem State.setA_runState (v : Byte) : (s.setA v).cpu.runState = s.cpu.runState := rfl
@[simp] theorem State.setA_speed (v : Byte) : (s.setA v).cpu.speed = s.cpu.speed := rfl
@[simp] theorem State.setA_afterSet (v : Byte) : (s.setA v).cpu.afterSet = s.cpu.afterSet := rfl
@[simp] theorem State.setA_nmiPending (v : Byte) : (s.setA v).cpu.nmiPending = s.cpu.nmiPending := rfl
@[simp] theorem State.setA_mpr (v : Byte) : (s.setA v).mpr = s.mpr := rfl
@[simp] theorem State.setA_irq (v : Byte) : (s.setA v).irq = s.irq := rfl
@[simp] theorem State.setA_timer (v : Byte) : (s.setA v).timer = s.timer := rfl
@[simp] theorem State.setA_pad (v : Byte) : (s.setA v).pad = s.pad := rfl
@[simp] theorem State.setA_rom (v : Byte) : (s.setA v).rom = s.rom := rfl
@[simp] theorem State.setA_wram (v : Byte) : (s.setA v).wram = s.wram := rfl
@[simp] theorem State.setA_cartRam (v : Byte) : (s.setA v).cartRam = s.cartRam := rfl
@[simp] theorem State.setA_fallback (v : Byte) : (s.setA v).fallback = s.fallback := rfl
@[simp] theorem State.setA_vdc (v : Byte) : (s.setA v).vdc = s.vdc := rfl
@[simp] theorem State.setA_vce (v : Byte) : (s.setA v).vce = s.vce := rfl
@[simp] theorem State.setA_params (v : Byte) : (s.setA v).params = s.params := rfl
@[simp] theorem State.setA_draws (v : Byte) : (s.setA v).draws = s.draws := rfl
@[simp] theorem State.setA_cycles (v : Byte) : (s.setA v).cycles = s.cycles := rfl
@[simp] theorem State.setA_psgWrites (v : Byte) : (s.setA v).psgWrites = s.psgWrites := rfl

/-! #### setX -/

@[simp] theorem State.setX_a (v : Byte) : (s.setX v).cpu.a = s.cpu.a := rfl
@[simp] theorem State.setX_x (v : Byte) : (s.setX v).cpu.x = v := rfl
@[simp] theorem State.setX_y (v : Byte) : (s.setX v).cpu.y = s.cpu.y := rfl
@[simp] theorem State.setX_sp (v : Byte) : (s.setX v).cpu.sp = s.cpu.sp := rfl
@[simp] theorem State.setX_pc (v : Byte) : (s.setX v).cpu.pc = s.cpu.pc := rfl
@[simp] theorem State.setX_p (v : Byte) : (s.setX v).cpu.p = s.cpu.p := rfl
@[simp] theorem State.setX_runState (v : Byte) : (s.setX v).cpu.runState = s.cpu.runState := rfl
@[simp] theorem State.setX_speed (v : Byte) : (s.setX v).cpu.speed = s.cpu.speed := rfl
@[simp] theorem State.setX_afterSet (v : Byte) : (s.setX v).cpu.afterSet = s.cpu.afterSet := rfl
@[simp] theorem State.setX_nmiPending (v : Byte) : (s.setX v).cpu.nmiPending = s.cpu.nmiPending := rfl
@[simp] theorem State.setX_mpr (v : Byte) : (s.setX v).mpr = s.mpr := rfl
@[simp] theorem State.setX_irq (v : Byte) : (s.setX v).irq = s.irq := rfl
@[simp] theorem State.setX_timer (v : Byte) : (s.setX v).timer = s.timer := rfl
@[simp] theorem State.setX_pad (v : Byte) : (s.setX v).pad = s.pad := rfl
@[simp] theorem State.setX_rom (v : Byte) : (s.setX v).rom = s.rom := rfl
@[simp] theorem State.setX_wram (v : Byte) : (s.setX v).wram = s.wram := rfl
@[simp] theorem State.setX_cartRam (v : Byte) : (s.setX v).cartRam = s.cartRam := rfl
@[simp] theorem State.setX_fallback (v : Byte) : (s.setX v).fallback = s.fallback := rfl
@[simp] theorem State.setX_vdc (v : Byte) : (s.setX v).vdc = s.vdc := rfl
@[simp] theorem State.setX_vce (v : Byte) : (s.setX v).vce = s.vce := rfl
@[simp] theorem State.setX_params (v : Byte) : (s.setX v).params = s.params := rfl
@[simp] theorem State.setX_draws (v : Byte) : (s.setX v).draws = s.draws := rfl
@[simp] theorem State.setX_cycles (v : Byte) : (s.setX v).cycles = s.cycles := rfl
@[simp] theorem State.setX_psgWrites (v : Byte) : (s.setX v).psgWrites = s.psgWrites := rfl

/-! #### setY -/

@[simp] theorem State.setY_a (v : Byte) : (s.setY v).cpu.a = s.cpu.a := rfl
@[simp] theorem State.setY_x (v : Byte) : (s.setY v).cpu.x = s.cpu.x := rfl
@[simp] theorem State.setY_y (v : Byte) : (s.setY v).cpu.y = v := rfl
@[simp] theorem State.setY_sp (v : Byte) : (s.setY v).cpu.sp = s.cpu.sp := rfl
@[simp] theorem State.setY_pc (v : Byte) : (s.setY v).cpu.pc = s.cpu.pc := rfl
@[simp] theorem State.setY_p (v : Byte) : (s.setY v).cpu.p = s.cpu.p := rfl
@[simp] theorem State.setY_runState (v : Byte) : (s.setY v).cpu.runState = s.cpu.runState := rfl
@[simp] theorem State.setY_speed (v : Byte) : (s.setY v).cpu.speed = s.cpu.speed := rfl
@[simp] theorem State.setY_afterSet (v : Byte) : (s.setY v).cpu.afterSet = s.cpu.afterSet := rfl
@[simp] theorem State.setY_nmiPending (v : Byte) : (s.setY v).cpu.nmiPending = s.cpu.nmiPending := rfl
@[simp] theorem State.setY_mpr (v : Byte) : (s.setY v).mpr = s.mpr := rfl
@[simp] theorem State.setY_irq (v : Byte) : (s.setY v).irq = s.irq := rfl
@[simp] theorem State.setY_timer (v : Byte) : (s.setY v).timer = s.timer := rfl
@[simp] theorem State.setY_pad (v : Byte) : (s.setY v).pad = s.pad := rfl
@[simp] theorem State.setY_rom (v : Byte) : (s.setY v).rom = s.rom := rfl
@[simp] theorem State.setY_wram (v : Byte) : (s.setY v).wram = s.wram := rfl
@[simp] theorem State.setY_cartRam (v : Byte) : (s.setY v).cartRam = s.cartRam := rfl
@[simp] theorem State.setY_fallback (v : Byte) : (s.setY v).fallback = s.fallback := rfl
@[simp] theorem State.setY_vdc (v : Byte) : (s.setY v).vdc = s.vdc := rfl
@[simp] theorem State.setY_vce (v : Byte) : (s.setY v).vce = s.vce := rfl
@[simp] theorem State.setY_params (v : Byte) : (s.setY v).params = s.params := rfl
@[simp] theorem State.setY_draws (v : Byte) : (s.setY v).draws = s.draws := rfl
@[simp] theorem State.setY_cycles (v : Byte) : (s.setY v).cycles = s.cycles := rfl
@[simp] theorem State.setY_psgWrites (v : Byte) : (s.setY v).psgWrites = s.psgWrites := rfl

/-! #### setSp -/

@[simp] theorem State.setSp_a (v : Byte) : (s.setSp v).cpu.a = s.cpu.a := rfl
@[simp] theorem State.setSp_x (v : Byte) : (s.setSp v).cpu.x = s.cpu.x := rfl
@[simp] theorem State.setSp_y (v : Byte) : (s.setSp v).cpu.y = s.cpu.y := rfl
@[simp] theorem State.setSp_sp (v : Byte) : (s.setSp v).cpu.sp = v := rfl
@[simp] theorem State.setSp_pc (v : Byte) : (s.setSp v).cpu.pc = s.cpu.pc := rfl
@[simp] theorem State.setSp_p (v : Byte) : (s.setSp v).cpu.p = s.cpu.p := rfl
@[simp] theorem State.setSp_runState (v : Byte) : (s.setSp v).cpu.runState = s.cpu.runState := rfl
@[simp] theorem State.setSp_speed (v : Byte) : (s.setSp v).cpu.speed = s.cpu.speed := rfl
@[simp] theorem State.setSp_afterSet (v : Byte) : (s.setSp v).cpu.afterSet = s.cpu.afterSet := rfl
@[simp] theorem State.setSp_nmiPending (v : Byte) : (s.setSp v).cpu.nmiPending = s.cpu.nmiPending := rfl
@[simp] theorem State.setSp_mpr (v : Byte) : (s.setSp v).mpr = s.mpr := rfl
@[simp] theorem State.setSp_irq (v : Byte) : (s.setSp v).irq = s.irq := rfl
@[simp] theorem State.setSp_timer (v : Byte) : (s.setSp v).timer = s.timer := rfl
@[simp] theorem State.setSp_pad (v : Byte) : (s.setSp v).pad = s.pad := rfl
@[simp] theorem State.setSp_rom (v : Byte) : (s.setSp v).rom = s.rom := rfl
@[simp] theorem State.setSp_wram (v : Byte) : (s.setSp v).wram = s.wram := rfl
@[simp] theorem State.setSp_cartRam (v : Byte) : (s.setSp v).cartRam = s.cartRam := rfl
@[simp] theorem State.setSp_fallback (v : Byte) : (s.setSp v).fallback = s.fallback := rfl
@[simp] theorem State.setSp_vdc (v : Byte) : (s.setSp v).vdc = s.vdc := rfl
@[simp] theorem State.setSp_vce (v : Byte) : (s.setSp v).vce = s.vce := rfl
@[simp] theorem State.setSp_params (v : Byte) : (s.setSp v).params = s.params := rfl
@[simp] theorem State.setSp_draws (v : Byte) : (s.setSp v).draws = s.draws := rfl
@[simp] theorem State.setSp_cycles (v : Byte) : (s.setSp v).cycles = s.cycles := rfl
@[simp] theorem State.setSp_psgWrites (v : Byte) : (s.setSp v).psgWrites = s.psgWrites := rfl

/-! #### setPc -/

@[simp] theorem State.setPc_a (w : Word) : (s.setPc w).cpu.a = s.cpu.a := rfl
@[simp] theorem State.setPc_x (w : Word) : (s.setPc w).cpu.x = s.cpu.x := rfl
@[simp] theorem State.setPc_y (w : Word) : (s.setPc w).cpu.y = s.cpu.y := rfl
@[simp] theorem State.setPc_sp (w : Word) : (s.setPc w).cpu.sp = s.cpu.sp := rfl
@[simp] theorem State.setPc_pc (w : Word) : (s.setPc w).cpu.pc = w := rfl
@[simp] theorem State.setPc_p (w : Word) : (s.setPc w).cpu.p = s.cpu.p := rfl
@[simp] theorem State.setPc_runState (w : Word) : (s.setPc w).cpu.runState = s.cpu.runState := rfl
@[simp] theorem State.setPc_speed (w : Word) : (s.setPc w).cpu.speed = s.cpu.speed := rfl
@[simp] theorem State.setPc_afterSet (w : Word) : (s.setPc w).cpu.afterSet = s.cpu.afterSet := rfl
@[simp] theorem State.setPc_nmiPending (w : Word) : (s.setPc w).cpu.nmiPending = s.cpu.nmiPending := rfl
@[simp] theorem State.setPc_mpr (w : Word) : (s.setPc w).mpr = s.mpr := rfl
@[simp] theorem State.setPc_irq (w : Word) : (s.setPc w).irq = s.irq := rfl
@[simp] theorem State.setPc_timer (w : Word) : (s.setPc w).timer = s.timer := rfl
@[simp] theorem State.setPc_pad (w : Word) : (s.setPc w).pad = s.pad := rfl
@[simp] theorem State.setPc_rom (w : Word) : (s.setPc w).rom = s.rom := rfl
@[simp] theorem State.setPc_wram (w : Word) : (s.setPc w).wram = s.wram := rfl
@[simp] theorem State.setPc_cartRam (w : Word) : (s.setPc w).cartRam = s.cartRam := rfl
@[simp] theorem State.setPc_fallback (w : Word) : (s.setPc w).fallback = s.fallback := rfl
@[simp] theorem State.setPc_vdc (w : Word) : (s.setPc w).vdc = s.vdc := rfl
@[simp] theorem State.setPc_vce (w : Word) : (s.setPc w).vce = s.vce := rfl
@[simp] theorem State.setPc_params (w : Word) : (s.setPc w).params = s.params := rfl
@[simp] theorem State.setPc_draws (w : Word) : (s.setPc w).draws = s.draws := rfl
@[simp] theorem State.setPc_cycles (w : Word) : (s.setPc w).cycles = s.cycles := rfl
@[simp] theorem State.setPc_psgWrites (w : Word) : (s.setPc w).psgWrites = s.psgWrites := rfl

/-! #### setP -/

@[simp] theorem State.setP_a (f : Flags) : (s.setP f).cpu.a = s.cpu.a := rfl
@[simp] theorem State.setP_x (f : Flags) : (s.setP f).cpu.x = s.cpu.x := rfl
@[simp] theorem State.setP_y (f : Flags) : (s.setP f).cpu.y = s.cpu.y := rfl
@[simp] theorem State.setP_sp (f : Flags) : (s.setP f).cpu.sp = s.cpu.sp := rfl
@[simp] theorem State.setP_pc (f : Flags) : (s.setP f).cpu.pc = s.cpu.pc := rfl
@[simp] theorem State.setP_p (f : Flags) : (s.setP f).cpu.p = f := rfl
@[simp] theorem State.setP_runState (f : Flags) : (s.setP f).cpu.runState = s.cpu.runState := rfl
@[simp] theorem State.setP_speed (f : Flags) : (s.setP f).cpu.speed = s.cpu.speed := rfl
@[simp] theorem State.setP_afterSet (f : Flags) : (s.setP f).cpu.afterSet = s.cpu.afterSet := rfl
@[simp] theorem State.setP_nmiPending (f : Flags) : (s.setP f).cpu.nmiPending = s.cpu.nmiPending := rfl
@[simp] theorem State.setP_mpr (f : Flags) : (s.setP f).mpr = s.mpr := rfl
@[simp] theorem State.setP_irq (f : Flags) : (s.setP f).irq = s.irq := rfl
@[simp] theorem State.setP_timer (f : Flags) : (s.setP f).timer = s.timer := rfl
@[simp] theorem State.setP_pad (f : Flags) : (s.setP f).pad = s.pad := rfl
@[simp] theorem State.setP_rom (f : Flags) : (s.setP f).rom = s.rom := rfl
@[simp] theorem State.setP_wram (f : Flags) : (s.setP f).wram = s.wram := rfl
@[simp] theorem State.setP_cartRam (f : Flags) : (s.setP f).cartRam = s.cartRam := rfl
@[simp] theorem State.setP_fallback (f : Flags) : (s.setP f).fallback = s.fallback := rfl
@[simp] theorem State.setP_vdc (f : Flags) : (s.setP f).vdc = s.vdc := rfl
@[simp] theorem State.setP_vce (f : Flags) : (s.setP f).vce = s.vce := rfl
@[simp] theorem State.setP_params (f : Flags) : (s.setP f).params = s.params := rfl
@[simp] theorem State.setP_draws (f : Flags) : (s.setP f).draws = s.draws := rfl
@[simp] theorem State.setP_cycles (f : Flags) : (s.setP f).cycles = s.cycles := rfl
@[simp] theorem State.setP_psgWrites (f : Flags) : (s.setP f).psgWrites = s.psgWrites := rfl

/-! #### setNZ -/

@[simp] theorem State.setNZ_a (v : Byte) : (s.setNZ v).cpu.a = s.cpu.a := rfl
@[simp] theorem State.setNZ_x (v : Byte) : (s.setNZ v).cpu.x = s.cpu.x := rfl
@[simp] theorem State.setNZ_y (v : Byte) : (s.setNZ v).cpu.y = s.cpu.y := rfl
@[simp] theorem State.setNZ_sp (v : Byte) : (s.setNZ v).cpu.sp = s.cpu.sp := rfl
@[simp] theorem State.setNZ_pc (v : Byte) : (s.setNZ v).cpu.pc = s.cpu.pc := rfl
@[simp] theorem State.setNZ_p (v : Byte) : (s.setNZ v).cpu.p = s.cpu.p.setNZ v := rfl
@[simp] theorem State.setNZ_runState (v : Byte) : (s.setNZ v).cpu.runState = s.cpu.runState := rfl
@[simp] theorem State.setNZ_speed (v : Byte) : (s.setNZ v).cpu.speed = s.cpu.speed := rfl
@[simp] theorem State.setNZ_afterSet (v : Byte) : (s.setNZ v).cpu.afterSet = s.cpu.afterSet := rfl
@[simp] theorem State.setNZ_nmiPending (v : Byte) : (s.setNZ v).cpu.nmiPending = s.cpu.nmiPending := rfl
@[simp] theorem State.setNZ_mpr (v : Byte) : (s.setNZ v).mpr = s.mpr := rfl
@[simp] theorem State.setNZ_irq (v : Byte) : (s.setNZ v).irq = s.irq := rfl
@[simp] theorem State.setNZ_timer (v : Byte) : (s.setNZ v).timer = s.timer := rfl
@[simp] theorem State.setNZ_pad (v : Byte) : (s.setNZ v).pad = s.pad := rfl
@[simp] theorem State.setNZ_rom (v : Byte) : (s.setNZ v).rom = s.rom := rfl
@[simp] theorem State.setNZ_wram (v : Byte) : (s.setNZ v).wram = s.wram := rfl
@[simp] theorem State.setNZ_cartRam (v : Byte) : (s.setNZ v).cartRam = s.cartRam := rfl
@[simp] theorem State.setNZ_fallback (v : Byte) : (s.setNZ v).fallback = s.fallback := rfl
@[simp] theorem State.setNZ_vdc (v : Byte) : (s.setNZ v).vdc = s.vdc := rfl
@[simp] theorem State.setNZ_vce (v : Byte) : (s.setNZ v).vce = s.vce := rfl
@[simp] theorem State.setNZ_params (v : Byte) : (s.setNZ v).params = s.params := rfl
@[simp] theorem State.setNZ_draws (v : Byte) : (s.setNZ v).draws = s.draws := rfl
@[simp] theorem State.setNZ_cycles (v : Byte) : (s.setNZ v).cycles = s.cycles := rfl
@[simp] theorem State.setNZ_psgWrites (v : Byte) : (s.setNZ v).psgWrites = s.psgWrites := rfl

/-! #### endWith -/

@[simp] theorem State.endWith_a (t : Bool) (c : Nat) : (s.endWith t c).cpu.a = s.cpu.a := rfl
@[simp] theorem State.endWith_x (t : Bool) (c : Nat) : (s.endWith t c).cpu.x = s.cpu.x := rfl
@[simp] theorem State.endWith_y (t : Bool) (c : Nat) : (s.endWith t c).cpu.y = s.cpu.y := rfl
@[simp] theorem State.endWith_sp (t : Bool) (c : Nat) : (s.endWith t c).cpu.sp = s.cpu.sp := rfl
@[simp] theorem State.endWith_pc (t : Bool) (c : Nat) : (s.endWith t c).cpu.pc = s.cpu.pc := rfl
@[simp] theorem State.endWith_p (t : Bool) (c : Nat) : (s.endWith t c).cpu.p = { s.cpu.p with t := t } := rfl
@[simp] theorem State.endWith_runState (t : Bool) (c : Nat) : (s.endWith t c).cpu.runState = s.cpu.runState := rfl
@[simp] theorem State.endWith_speed (t : Bool) (c : Nat) : (s.endWith t c).cpu.speed = s.cpu.speed := rfl
@[simp] theorem State.endWith_afterSet (t : Bool) (c : Nat) : (s.endWith t c).cpu.afterSet = t := rfl
@[simp] theorem State.endWith_nmiPending (t : Bool) (c : Nat) : (s.endWith t c).cpu.nmiPending = s.cpu.nmiPending := rfl
@[simp] theorem State.endWith_mpr (t : Bool) (c : Nat) : (s.endWith t c).mpr = s.mpr := rfl
@[simp] theorem State.endWith_irq (t : Bool) (c : Nat) : (s.endWith t c).irq = s.irq := rfl
@[simp] theorem State.endWith_timer (t : Bool) (c : Nat) : (s.endWith t c).timer = s.timer := rfl
@[simp] theorem State.endWith_pad (t : Bool) (c : Nat) : (s.endWith t c).pad = s.pad := rfl
@[simp] theorem State.endWith_rom (t : Bool) (c : Nat) : (s.endWith t c).rom = s.rom := rfl
@[simp] theorem State.endWith_wram (t : Bool) (c : Nat) : (s.endWith t c).wram = s.wram := rfl
@[simp] theorem State.endWith_cartRam (t : Bool) (c : Nat) : (s.endWith t c).cartRam = s.cartRam := rfl
@[simp] theorem State.endWith_fallback (t : Bool) (c : Nat) : (s.endWith t c).fallback = s.fallback := rfl
@[simp] theorem State.endWith_vdc (t : Bool) (c : Nat) : (s.endWith t c).vdc = s.vdc := rfl
@[simp] theorem State.endWith_vce (t : Bool) (c : Nat) : (s.endWith t c).vce = s.vce := rfl
@[simp] theorem State.endWith_params (t : Bool) (c : Nat) : (s.endWith t c).params = s.params := rfl
@[simp] theorem State.endWith_draws (t : Bool) (c : Nat) : (s.endWith t c).draws = s.draws := rfl
@[simp] theorem State.endWith_cycles (t : Bool) (c : Nat) : (s.endWith t c).cycles = c := rfl
@[simp] theorem State.endWith_psgWrites (t : Bool) (c : Nat) : (s.endWith t c).psgWrites = s.psgWrites := rfl

/-! #### Devices, draws and requests -/

@[simp] theorem State.draw_snd_cpu {α : Type} (f : Nat → α) : ((s.draw f).2).cpu = s.cpu := rfl
@[simp] theorem State.draw_snd_mpr {α : Type} (f : Nat → α) : ((s.draw f).2).mpr = s.mpr := rfl
@[simp] theorem State.draw_snd_irq {α : Type} (f : Nat → α) : ((s.draw f).2).irq = s.irq := rfl
@[simp] theorem State.draw_snd_timer {α : Type} (f : Nat → α) : ((s.draw f).2).timer = s.timer := rfl
@[simp] theorem State.draw_snd_pad {α : Type} (f : Nat → α) : ((s.draw f).2).pad = s.pad := rfl
@[simp] theorem State.draw_snd_rom {α : Type} (f : Nat → α) : ((s.draw f).2).rom = s.rom := rfl
@[simp] theorem State.draw_snd_wram {α : Type} (f : Nat → α) : ((s.draw f).2).wram = s.wram := rfl
@[simp] theorem State.draw_snd_cartRam {α : Type} (f : Nat → α) : ((s.draw f).2).cartRam = s.cartRam := rfl
@[simp] theorem State.draw_snd_fallback {α : Type} (f : Nat → α) : ((s.draw f).2).fallback = s.fallback := rfl
@[simp] theorem State.draw_snd_vdc {α : Type} (f : Nat → α) : ((s.draw f).2).vdc = s.vdc := rfl
@[simp] theorem State.draw_snd_vce {α : Type} (f : Nat → α) : ((s.draw f).2).vce = s.vce := rfl
@[simp] theorem State.draw_snd_params {α : Type} (f : Nat → α) : ((s.draw f).2).params = s.params := rfl
@[simp] theorem State.draw_snd_draws {α : Type} (f : Nat → α) : ((s.draw f).2).draws = s.draws + 1 := rfl
@[simp] theorem State.draw_snd_cycles {α : Type} (f : Nat → α) : ((s.draw f).2).cycles = s.cycles := rfl
@[simp] theorem State.draw_snd_psgWrites {α : Type} (f : Nat → α) : ((s.draw f).2).psgWrites = s.psgWrites := rfl

@[simp] theorem State.draw_fst {α : Type} (f : Nat → α) : (s.draw f).1 = f s.draws := rfl

@[simp] theorem State.vdcAct_cpu (r : Vdc × Bool) : (s.vdcAct r).cpu = s.cpu := rfl
@[simp] theorem State.vdcAct_mpr (r : Vdc × Bool) : (s.vdcAct r).mpr = s.mpr := rfl
@[simp] theorem State.vdcAct_irq (r : Vdc × Bool) : (s.vdcAct r).irq = s.irq.raise 1 r.2 := rfl
@[simp] theorem State.vdcAct_timer (r : Vdc × Bool) : (s.vdcAct r).timer = s.timer := rfl
@[simp] theorem State.vdcAct_pad (r : Vdc × Bool) : (s.vdcAct r).pad = s.pad := rfl
@[simp] theorem State.vdcAct_rom (r : Vdc × Bool) : (s.vdcAct r).rom = s.rom := rfl
@[simp] theorem State.vdcAct_wram (r : Vdc × Bool) : (s.vdcAct r).wram = s.wram := rfl
@[simp] theorem State.vdcAct_cartRam (r : Vdc × Bool) : (s.vdcAct r).cartRam = s.cartRam := rfl
@[simp] theorem State.vdcAct_fallback (r : Vdc × Bool) : (s.vdcAct r).fallback = s.fallback := rfl
@[simp] theorem State.vdcAct_vdc (r : Vdc × Bool) : (s.vdcAct r).vdc = r.1 := rfl
@[simp] theorem State.vdcAct_vce (r : Vdc × Bool) : (s.vdcAct r).vce = s.vce := rfl
@[simp] theorem State.vdcAct_params (r : Vdc × Bool) : (s.vdcAct r).params = s.params := rfl
@[simp] theorem State.vdcAct_draws (r : Vdc × Bool) : (s.vdcAct r).draws = s.draws := rfl
@[simp] theorem State.vdcAct_cycles (r : Vdc × Bool) : (s.vdcAct r).cycles = s.cycles := rfl
@[simp] theorem State.vdcAct_psgWrites (r : Vdc × Bool) : (s.vdcAct r).psgWrites = s.psgWrites := rfl

@[simp] theorem State.timerAdvance_cpu (m : Nat) : (s.timerAdvance m).cpu = s.cpu := rfl
@[simp] theorem State.timerAdvance_mpr (m : Nat) : (s.timerAdvance m).mpr = s.mpr := rfl
@[simp] theorem State.timerAdvance_irq (m : Nat) : (s.timerAdvance m).irq = s.irq.raise 2 (s.timer.advance m).2 := rfl
@[simp] theorem State.timerAdvance_timer (m : Nat) : (s.timerAdvance m).timer = (s.timer.advance m).1 := rfl
@[simp] theorem State.timerAdvance_pad (m : Nat) : (s.timerAdvance m).pad = s.pad := rfl
@[simp] theorem State.timerAdvance_rom (m : Nat) : (s.timerAdvance m).rom = s.rom := rfl
@[simp] theorem State.timerAdvance_wram (m : Nat) : (s.timerAdvance m).wram = s.wram := rfl
@[simp] theorem State.timerAdvance_cartRam (m : Nat) : (s.timerAdvance m).cartRam = s.cartRam := rfl
@[simp] theorem State.timerAdvance_fallback (m : Nat) : (s.timerAdvance m).fallback = s.fallback := rfl
@[simp] theorem State.timerAdvance_vdc (m : Nat) : (s.timerAdvance m).vdc = s.vdc := rfl
@[simp] theorem State.timerAdvance_vce (m : Nat) : (s.timerAdvance m).vce = s.vce := rfl
@[simp] theorem State.timerAdvance_params (m : Nat) : (s.timerAdvance m).params = s.params := rfl
@[simp] theorem State.timerAdvance_draws (m : Nat) : (s.timerAdvance m).draws = s.draws := rfl
@[simp] theorem State.timerAdvance_cycles (m : Nat) : (s.timerAdvance m).cycles = s.cycles := rfl
@[simp] theorem State.timerAdvance_psgWrites (m : Nat) : (s.timerAdvance m).psgWrites = s.psgWrites := rfl

@[simp] theorem State.psgTick_cpu  : (s.psgTick).cpu = s.cpu := rfl
@[simp] theorem State.psgTick_mpr  : (s.psgTick).mpr = s.mpr := rfl
@[simp] theorem State.psgTick_irq  : (s.psgTick).irq = s.irq.raise 0 (Config.psgRaises s.draws) := rfl
@[simp] theorem State.psgTick_timer  : (s.psgTick).timer = s.timer := rfl
@[simp] theorem State.psgTick_pad  : (s.psgTick).pad = s.pad := rfl
@[simp] theorem State.psgTick_rom  : (s.psgTick).rom = s.rom := rfl
@[simp] theorem State.psgTick_wram  : (s.psgTick).wram = s.wram := rfl
@[simp] theorem State.psgTick_cartRam  : (s.psgTick).cartRam = s.cartRam := rfl
@[simp] theorem State.psgTick_fallback  : (s.psgTick).fallback = s.fallback := rfl
@[simp] theorem State.psgTick_vdc  : (s.psgTick).vdc = s.vdc := rfl
@[simp] theorem State.psgTick_vce  : (s.psgTick).vce = s.vce := rfl
@[simp] theorem State.psgTick_params  : (s.psgTick).params = s.params := rfl
@[simp] theorem State.psgTick_draws  : (s.psgTick).draws = s.draws + 1 := rfl
@[simp] theorem State.psgTick_cycles  : (s.psgTick).cycles = s.cycles := rfl
@[simp] theorem State.psgTick_psgWrites  : (s.psgTick).psgWrites = s.psgWrites := rfl

@[simp] theorem State.vdcAdvance_cpu (m : Nat) : (s.vdcAdvance m).cpu = s.cpu := rfl
@[simp] theorem State.vdcAdvance_mpr (m : Nat) : (s.vdcAdvance m).mpr = s.mpr := rfl
@[simp] theorem State.vdcAdvance_irq (m : Nat) : (s.vdcAdvance m).irq = s.irq.raise 1 (s.vdc.advance s.params s.vce.palette m).2 := rfl
@[simp] theorem State.vdcAdvance_timer (m : Nat) : (s.vdcAdvance m).timer = s.timer := rfl
@[simp] theorem State.vdcAdvance_pad (m : Nat) : (s.vdcAdvance m).pad = s.pad := rfl
@[simp] theorem State.vdcAdvance_rom (m : Nat) : (s.vdcAdvance m).rom = s.rom := rfl
@[simp] theorem State.vdcAdvance_wram (m : Nat) : (s.vdcAdvance m).wram = s.wram := rfl
@[simp] theorem State.vdcAdvance_cartRam (m : Nat) : (s.vdcAdvance m).cartRam = s.cartRam := rfl
@[simp] theorem State.vdcAdvance_fallback (m : Nat) : (s.vdcAdvance m).fallback = s.fallback := rfl
@[simp] theorem State.vdcAdvance_vdc (m : Nat) : (s.vdcAdvance m).vdc = (s.vdc.advance s.params s.vce.palette m).1 := rfl
@[simp] theorem State.vdcAdvance_vce (m : Nat) : (s.vdcAdvance m).vce = s.vce := rfl
@[simp] theorem State.vdcAdvance_params (m : Nat) : (s.vdcAdvance m).params = s.params := rfl
@[simp] theorem State.vdcAdvance_draws (m : Nat) : (s.vdcAdvance m).draws = s.draws := rfl
@[simp] theorem State.vdcAdvance_cycles (m : Nat) : (s.vdcAdvance m).cycles = s.cycles := rfl
@[simp] theorem State.vdcAdvance_psgWrites (m : Nat) : (s.vdcAdvance m).psgWrites = s.psgWrites := rfl

@[simp] theorem State.advance_cpu (c : Nat) : (s.advance c).cpu = s.cpu := rfl
@[simp] theorem State.advance_mpr (c : Nat) : (s.advance c).mpr = s.mpr := rfl
@[simp] theorem State.advance_timer (c : Nat) : (s.advance c).timer = (s.timer.advance (c * s.cpu.speed.clocks)).1 := rfl
@[simp] theorem State.advance_pad (c : Nat) : (s.advance c).pad = s.pad := rfl
@[simp] theorem State.advance_rom (c : Nat) : (s.advance c).rom = s.rom := rfl
@[simp] theorem State.advance_wram (c : Nat) : (s.advance c).wram = s.wram := rfl
@[simp] theorem State.advance_cartRam (c : Nat) : (s.advance c).cartRam = s.cartRam := rfl
@[simp] theorem State.advance_fallback (c : Nat) : (s.advance c).fallback = s.fallback := rfl
@[simp] theorem State.advance_vce (c : Nat) : (s.advance c).vce = s.vce := rfl
@[simp] theorem State.advance_params (c : Nat) : (s.advance c).params = s.params := rfl
@[simp] theorem State.advance_draws (c : Nat) : (s.advance c).draws = s.draws + 1 := rfl
@[simp] theorem State.advance_cycles (c : Nat) : (s.advance c).cycles = s.cycles := rfl
@[simp] theorem State.advance_psgWrites (c : Nat) : (s.advance c).psgWrites = s.psgWrites := rfl

/-! #### Flags -/

@[simp] theorem Flags.setNZ_n (f : Flags) (v : Byte) : (f.setNZ v).n = v.msb := rfl
@[simp] theorem Flags.setNZ_z (f : Flags) (v : Byte) : (f.setNZ v).z = (v == 0) := rfl
@[simp] theorem Flags.setNZ_v (f : Flags) (v : Byte) : (f.setNZ v).v = f.v := rfl
@[simp] theorem Flags.setNZ_t (f : Flags) (v : Byte) : (f.setNZ v).t = f.t := rfl
@[simp] theorem Flags.setNZ_d (f : Flags) (v : Byte) : (f.setNZ v).d = f.d := rfl
@[simp] theorem Flags.setNZ_i (f : Flags) (v : Byte) : (f.setNZ v).i = f.i := rfl
@[simp] theorem Flags.setNZ_c (f : Flags) (v : Byte) : (f.setNZ v).c = f.c := rfl

end Sys2Proof.Machine
end

