-- ==== Sys2Proof/Laws/Bus.lean ====
section
/-! SUPPORT. What the bus operations can change: one lemma for each, its field lemmas, and the reads and
writes of plain storage. -/

namespace Sys2Proof.Machine

variable (s : State)

/-! ### Reads -/

/-- A read changes at most the VDC, the VCE and the draw counter (20_memory.md R100). -/
theorem State.readPlace_only (pl : Place) :
    ∃ v c n, (s.readPlace pl).2 = { s with vdc := v, vce := c, draws := n } := by
  cases pl with
  | port q => cases q <;> exact ⟨_, _, _, rfl⟩
  | _ => exact ⟨_, _, _, rfl⟩

/-- MemRead changes at most the VDC, the VCE and the draw counter. -/
theorem memRead_only (a : Word) :
    ∃ v c n, (memRead a s).2 = { s with vdc := v, vce := c, draws := n } := s.readPlace_only _

theorem read16_only (a : Word) :
    ∃ v c n, (read16 a s).2 = { s with vdc := v, vce := c, draws := n } := by
  obtain ⟨v, c, n, h⟩ := memRead_only s a
  obtain ⟨v', c', n', h'⟩ := memRead_only (memRead a s).2 (a + 1)
  exact ⟨v', c', n', by simp only [read16]; rw [h', h]⟩

theorem zpRead_only (z : Byte) :
    ∃ v c n, (zpRead z s).2 = { s with vdc := v, vce := c, draws := n } := memRead_only s _

theorem zpRead16_only (z : Byte) :
    ∃ v c n, (zpRead16 z s).2 = { s with vdc := v, vce := c, draws := n } := by
  obtain ⟨v, c, n, h⟩ := zpRead_only s z
  obtain ⟨v', c', n', h'⟩ := zpRead_only (zpRead z s).2 (z + 1)
  exact ⟨v', c', n', by simp only [zpRead16]; rw [h', h]⟩

/-- An effective address takes reads alone. -/
theorem ea_only (m : Addr) :
    ∃ v c n, (ea m s).2 = { s with vdc := v, vce := c, draws := n } := by
  cases m with
  | ind z => exact zpRead16_only s z
  | indX z => exact zpRead16_only s _
  | indY z => exact zpRead16_only s z
  | _ => exact ⟨_, _, _, rfl⟩

/-- An operand read takes reads alone. -/
theorem readOperand_only (r : Operand) :
    ∃ v c n, (readOperand r s).2 = { s with vdc := v, vce := c, draws := n } := by
  cases r with
  | imm b => exact ⟨_, _, _, rfl⟩
  | mem m =>
    obtain ⟨v, c, n, h⟩ := ea_only s m
    obtain ⟨v', c', n', h'⟩ := memRead_only (ea m s).2 (ea m s).1
    exact ⟨v', c', n', by simp only [readOperand]; rw [h', h]⟩

@[simp] theorem memRead_cpu (a : Word) : (memRead a s).2.cpu = s.cpu := by
  obtain ⟨_, _, _, h⟩ := memRead_only s a; rw [h]
@[simp] theorem memRead_mpr (a : Word) : (memRead a s).2.mpr = s.mpr := by
  obtain ⟨_, _, _, h⟩ := memRead_only s a; rw [h]
@[simp] theorem memRead_irq (a : Word) : (memRead a s).2.irq = s.irq := by
  obtain ⟨_, _, _, h⟩ := memRead_only s a; rw [h]
@[simp] theorem memRead_timer (a : Word) : (memRead a s).2.timer = s.timer := by
  obtain ⟨_, _, _, h⟩ := memRead_only s a; rw [h]
@[simp] theorem memRead_pad (a : Word) : (memRead a s).2.pad = s.pad := by
  obtain ⟨_, _, _, h⟩ := memRead_only s a; rw [h]
@[simp] theorem memRead_rom (a : Word) : (memRead a s).2.rom = s.rom := by
  obtain ⟨_, _, _, h⟩ := memRead_only s a; rw [h]
@[simp] theorem memRead_wram (a : Word) : (memRead a s).2.wram = s.wram := by
  obtain ⟨_, _, _, h⟩ := memRead_only s a; rw [h]
@[simp] theorem memRead_cartRam (a : Word) : (memRead a s).2.cartRam = s.cartRam := by
  obtain ⟨_, _, _, h⟩ := memRead_only s a; rw [h]
@[simp] theorem memRead_fallback (a : Word) : (memRead a s).2.fallback = s.fallback := by
  obtain ⟨_, _, _, h⟩ := memRead_only s a; rw [h]
@[simp] theorem memRead_params (a : Word) : (memRead a s).2.params = s.params := by
  obtain ⟨_, _, _, h⟩ := memRead_only s a; rw [h]
@[simp] theorem memRead_cycles (a : Word) : (memRead a s).2.cycles = s.cycles := by
  obtain ⟨_, _, _, h⟩ := memRead_only s a; rw [h]
@[simp] theorem memRead_psgWrites (a : Word) : (memRead a s).2.psgWrites = s.psgWrites := by
  obtain ⟨_, _, _, h⟩ := memRead_only s a; rw [h]

@[simp] theorem read16_cpu (a : Word) : (read16 a s).2.cpu = s.cpu := by
  obtain ⟨_, _, _, h⟩ := read16_only s a; rw [h]
@[simp] theorem read16_mpr (a : Word) : (read16 a s).2.mpr = s.mpr := by
  obtain ⟨_, _, _, h⟩ := read16_only s a; rw [h]
@[simp] theorem read16_irq (a : Word) : (read16 a s).2.irq = s.irq := by
  obtain ⟨_, _, _, h⟩ := read16_only s a; rw [h]
@[simp] theorem read16_timer (a : Word) : (read16 a s).2.timer = s.timer := by
  obtain ⟨_, _, _, h⟩ := read16_only s a; rw [h]
@[simp] theorem read16_pad (a : Word) : (read16 a s).2.pad = s.pad := by
  obtain ⟨_, _, _, h⟩ := read16_only s a; rw [h]
@[simp] theorem read16_rom (a : Word) : (read16 a s).2.rom = s.rom := by
  obtain ⟨_, _, _, h⟩ := read16_only s a; rw [h]
@[simp] theorem read16_wram (a : Word) : (read16 a s).2.wram = s.wram := by
  obtain ⟨_, _, _, h⟩ := read16_only s a; rw [h]
@[simp] theorem read16_cartRam (a : Word) : (read16 a s).2.cartRam = s.cartRam := by
  obtain ⟨_, _, _, h⟩ := read16_only s a; rw [h]
@[simp] theorem read16_fallback (a : Word) : (read16 a s).2.fallback = s.fallback := by
  obtain ⟨_, _, _, h⟩ := read16_only s a; rw [h]
@[simp] theorem read16_params (a : Word) : (read16 a s).2.params = s.params := by
  obtain ⟨_, _, _, h⟩ := read16_only s a; rw [h]
@[simp] theorem read16_cycles (a : Word) : (read16 a s).2.cycles = s.cycles := by
  obtain ⟨_, _, _, h⟩ := read16_only s a; rw [h]
@[simp] theorem read16_psgWrites (a : Word) : (read16 a s).2.psgWrites = s.psgWrites := by
  obtain ⟨_, _, _, h⟩ := read16_only s a; rw [h]

@[simp] theorem zpRead_cpu (z : Byte) : (zpRead z s).2.cpu = s.cpu := by
  obtain ⟨_, _, _, h⟩ := zpRead_only s z; rw [h]
@[simp] theorem zpRead_mpr (z : Byte) : (zpRead z s).2.mpr = s.mpr := by
  obtain ⟨_, _, _, h⟩ := zpRead_only s z; rw [h]
@[simp] theorem zpRead_irq (z : Byte) : (zpRead z s).2.irq = s.irq := by
  obtain ⟨_, _, _, h⟩ := zpRead_only s z; rw [h]
@[simp] theorem zpRead_timer (z : Byte) : (zpRead z s).2.timer = s.timer := by
  obtain ⟨_, _, _, h⟩ := zpRead_only s z; rw [h]
@[simp] theorem zpRead_pad (z : Byte) : (zpRead z s).2.pad = s.pad := by
  obtain ⟨_, _, _, h⟩ := zpRead_only s z; rw [h]
@[simp] theorem zpRead_rom (z : Byte) : (zpRead z s).2.rom = s.rom := by
  obtain ⟨_, _, _, h⟩ := zpRead_only s z; rw [h]
@[simp] theorem zpRead_wram (z : Byte) : (zpRead z s).2.wram = s.wram := by
  obtain ⟨_, _, _, h⟩ := zpRead_only s z; rw [h]
@[simp] theorem zpRead_cartRam (z : Byte) : (zpRead z s).2.cartRam = s.cartRam := by
  obtain ⟨_, _, _, h⟩ := zpRead_only s z; rw [h]
@[simp] theorem zpRead_fallback (z : Byte) : (zpRead z s).2.fallback = s.fallback := by
  obtain ⟨_, _, _, h⟩ := zpRead_only s z; rw [h]
@[simp] theorem zpRead_params (z : Byte) : (zpRead z s).2.params = s.params := by
  obtain ⟨_, _, _, h⟩ := zpRead_only s z; rw [h]
@[simp] theorem zpRead_cycles (z : Byte) : (zpRead z s).2.cycles = s.cycles := by
  obtain ⟨_, _, _, h⟩ := zpRead_only s z; rw [h]
@[simp] theorem zpRead_psgWrites (z : Byte) : (zpRead z s).2.psgWrites = s.psgWrites := by
  obtain ⟨_, _, _, h⟩ := zpRead_only s z; rw [h]

@[simp] theorem zpRead16_cpu (z : Byte) : (zpRead16 z s).2.cpu = s.cpu := by
  obtain ⟨_, _, _, h⟩ := zpRead16_only s z; rw [h]
@[simp] theorem zpRead16_mpr (z : Byte) : (zpRead16 z s).2.mpr = s.mpr := by
  obtain ⟨_, _, _, h⟩ := zpRead16_only s z; rw [h]
@[simp] theorem zpRead16_irq (z : Byte) : (zpRead16 z s).2.irq = s.irq := by
  obtain ⟨_, _, _, h⟩ := zpRead16_only s z; rw [h]
@[simp] theorem zpRead16_timer (z : Byte) : (zpRead16 z s).2.timer = s.timer := by
  obtain ⟨_, _, _, h⟩ := zpRead16_only s z; rw [h]
@[simp] theorem zpRead16_pad (z : Byte) : (zpRead16 z s).2.pad = s.pad := by
  obtain ⟨_, _, _, h⟩ := zpRead16_only s z; rw [h]
@[simp] theorem zpRead16_rom (z : Byte) : (zpRead16 z s).2.rom = s.rom := by
  obtain ⟨_, _, _, h⟩ := zpRead16_only s z; rw [h]
@[simp] theorem zpRead16_wram (z : Byte) : (zpRead16 z s).2.wram = s.wram := by
  obtain ⟨_, _, _, h⟩ := zpRead16_only s z; rw [h]
@[simp] theorem zpRead16_cartRam (z : Byte) : (zpRead16 z s).2.cartRam = s.cartRam := by
  obtain ⟨_, _, _, h⟩ := zpRead16_only s z; rw [h]
@[simp] theorem zpRead16_fallback (z : Byte) : (zpRead16 z s).2.fallback = s.fallback := by
  obtain ⟨_, _, _, h⟩ := zpRead16_only s z; rw [h]
@[simp] theorem zpRead16_params (z : Byte) : (zpRead16 z s).2.params = s.params := by
  obtain ⟨_, _, _, h⟩ := zpRead16_only s z; rw [h]
@[simp] theorem zpRead16_cycles (z : Byte) : (zpRead16 z s).2.cycles = s.cycles := by
  obtain ⟨_, _, _, h⟩ := zpRead16_only s z; rw [h]
@[simp] theorem zpRead16_psgWrites (z : Byte) : (zpRead16 z s).2.psgWrites = s.psgWrites := by
  obtain ⟨_, _, _, h⟩ := zpRead16_only s z; rw [h]

@[simp] theorem ea_cpu (m : Addr) : (ea m s).2.cpu = s.cpu := by
  obtain ⟨_, _, _, h⟩ := ea_only s m; rw [h]
@[simp] theorem ea_mpr (m : Addr) : (ea m s).2.mpr = s.mpr := by
  obtain ⟨_, _, _, h⟩ := ea_only s m; rw [h]
@[simp] theorem ea_irq (m : Addr) : (ea m s).2.irq = s.irq := by
  obtain ⟨_, _, _, h⟩ := ea_only s m; rw [h]
@[simp] theorem ea_timer (m : Addr) : (ea m s).2.timer = s.timer := by
  obtain ⟨_, _, _, h⟩ := ea_only s m; rw [h]
@[simp] theorem ea_pad (m : Addr) : (ea m s).2.pad = s.pad := by
  obtain ⟨_, _, _, h⟩ := ea_only s m; rw [h]
@[simp] theorem ea_rom (m : Addr) : (ea m s).2.rom = s.rom := by
  obtain ⟨_, _, _, h⟩ := ea_only s m; rw [h]
@[simp] theorem ea_wram (m : Addr) : (ea m s).2.wram = s.wram := by
  obtain ⟨_, _, _, h⟩ := ea_only s m; rw [h]
@[simp] theorem ea_cartRam (m : Addr) : (ea m s).2.cartRam = s.cartRam := by
  obtain ⟨_, _, _, h⟩ := ea_only s m; rw [h]
@[simp] theorem ea_fallback (m : Addr) : (ea m s).2.fallback = s.fallback := by
  obtain ⟨_, _, _, h⟩ := ea_only s m; rw [h]
@[simp] theorem ea_params (m : Addr) : (ea m s).2.params = s.params := by
  obtain ⟨_, _, _, h⟩ := ea_only s m; rw [h]
@[simp] theorem ea_cycles (m : Addr) : (ea m s).2.cycles = s.cycles := by
  obtain ⟨_, _, _, h⟩ := ea_only s m; rw [h]
@[simp] theorem ea_psgWrites (m : Addr) : (ea m s).2.psgWrites = s.psgWrites := by
  obtain ⟨_, _, _, h⟩ := ea_only s m; rw [h]

@[simp] theorem readOperand_cpu (r : Operand) : (readOperand r s).2.cpu = s.cpu := by
  obtain ⟨_, _, _, h⟩ := readOperand_only s r; rw [h]
@[simp] theorem readOperand_mpr (r : Operand) : (readOperand r s).2.mpr = s.mpr := by
  obtain ⟨_, _, _, h⟩ := readOperand_only s r; rw [h]
@[simp] theorem readOperand_irq (r : Operand) : (readOperand r s).2.irq = s.irq := by
  obtain ⟨_, _, _, h⟩ := readOperand_only s r; rw [h]
@[simp] theorem readOperand_timer (r : Operand) : (readOperand r s).2.timer = s.timer := by
  obtain ⟨_, _, _, h⟩ := readOperand_only s r; rw [h]
@[simp] theorem readOperand_pad (r : Operand) : (readOperand r s).2.pad = s.pad := by
  obtain ⟨_, _, _, h⟩ := readOperand_only s r; rw [h]
@[simp] theorem readOperand_rom (r : Operand) : (readOperand r s).2.rom = s.rom := by
  obtain ⟨_, _, _, h⟩ := readOperand_only s r; rw [h]
@[simp] theorem readOperand_wram (r : Operand) : (readOperand r s).2.wram = s.wram := by
  obtain ⟨_, _, _, h⟩ := readOperand_only s r; rw [h]
@[simp] theorem readOperand_cartRam (r : Operand) : (readOperand r s).2.cartRam = s.cartRam := by
  obtain ⟨_, _, _, h⟩ := readOperand_only s r; rw [h]
@[simp] theorem readOperand_fallback (r : Operand) : (readOperand r s).2.fallback = s.fallback := by
  obtain ⟨_, _, _, h⟩ := readOperand_only s r; rw [h]
@[simp] theorem readOperand_params (r : Operand) : (readOperand r s).2.params = s.params := by
  obtain ⟨_, _, _, h⟩ := readOperand_only s r; rw [h]
@[simp] theorem readOperand_cycles (r : Operand) : (readOperand r s).2.cycles = s.cycles := by
  obtain ⟨_, _, _, h⟩ := readOperand_only s r; rw [h]
@[simp] theorem readOperand_psgWrites (r : Operand) : (readOperand r s).2.psgWrites = s.psgWrites := by
  obtain ⟨_, _, _, h⟩ := readOperand_only s r; rw [h]

/-! ### Writes -/

/-- A write leaves the CPU, ROM, the parameters, the draw counter and the cycle output alone. -/
theorem State.writePlace_only (pl : Place) (b : Byte) :
    ∃ m q t p w c f v e g, s.writePlace pl b =
      { s with mpr := m, irq := q, timer := t, pad := p, wram := w, cartRam := c, fallback := f
               vdc := v, vce := e, psgWrites := g } := by
  cases pl with
  | port q => cases q <;> exact ⟨_, _, _, _, _, _, _, _, _, _, rfl⟩
  | _ => exact ⟨_, _, _, _, _, _, _, _, _, _, rfl⟩

/-- MemWrite leaves the CPU, ROM, the parameters, the draw counter and the cycle output alone. -/
theorem memWrite_only (a : Word) (b : Byte) :
    ∃ m q t p w c f v e g, memWrite a b s =
      { s with mpr := m, irq := q, timer := t, pad := p, wram := w, cartRam := c, fallback := f
               vdc := v, vce := e, psgWrites := g } := s.writePlace_only _ b

@[simp] theorem memWrite_cpu (a : Word) (b : Byte) : (memWrite a b s).cpu = s.cpu := by
  obtain ⟨_, _, _, _, _, _, _, _, _, _, h⟩ := memWrite_only s a b; rw [h]
@[simp] theorem memWrite_rom (a : Word) (b : Byte) : (memWrite a b s).rom = s.rom := by
  obtain ⟨_, _, _, _, _, _, _, _, _, _, h⟩ := memWrite_only s a b; rw [h]
@[simp] theorem memWrite_params (a : Word) (b : Byte) : (memWrite a b s).params = s.params := by
  obtain ⟨_, _, _, _, _, _, _, _, _, _, h⟩ := memWrite_only s a b; rw [h]
@[simp] theorem memWrite_draws (a : Word) (b : Byte) : (memWrite a b s).draws = s.draws := by
  obtain ⟨_, _, _, _, _, _, _, _, _, _, h⟩ := memWrite_only s a b; rw [h]
@[simp] theorem memWrite_cycles (a : Word) (b : Byte) : (memWrite a b s).cycles = s.cycles := by
  obtain ⟨_, _, _, _, _, _, _, _, _, _, h⟩ := memWrite_only s a b; rw [h]
@[simp] theorem zpWrite_cpu (z b : Byte) : (zpWrite z b s).cpu = s.cpu := memWrite_cpu s _ b
@[simp] theorem zpWrite_rom (z b : Byte) : (zpWrite z b s).rom = s.rom := memWrite_rom s _ b
@[simp] theorem zpWrite_params (z b : Byte) : (zpWrite z b s).params = s.params := memWrite_params s _ b
@[simp] theorem zpWrite_draws (z b : Byte) : (zpWrite z b s).draws = s.draws := memWrite_draws s _ b
@[simp] theorem zpWrite_cycles (z b : Byte) : (zpWrite z b s).cycles = s.cycles := memWrite_cycles s _ b

/-! ### Stack -/

@[simp] theorem push_cpu (v : Byte) : (push v s).cpu = { s.cpu with sp := s.cpu.sp - 1 } := by
  simp [push, State.setSp]
@[simp] theorem push_rom (v : Byte) : (push v s).rom = s.rom := by simp [push]
@[simp] theorem push_params (v : Byte) : (push v s).params = s.params := by simp [push]
@[simp] theorem push_draws (v : Byte) : (push v s).draws = s.draws := by simp [push]
@[simp] theorem push_cycles (v : Byte) : (push v s).cycles = s.cycles := by simp [push]

@[simp] theorem push16_cpu (w : Word) :
    (push16 w s).cpu = { s.cpu with sp := s.cpu.sp - 1 - 1 } := by simp [push16]
@[simp] theorem push16_rom (w : Word) : (push16 w s).rom = s.rom := by simp [push16]
@[simp] theorem push16_params (w : Word) : (push16 w s).params = s.params := by simp [push16]
@[simp] theorem push16_draws (w : Word) : (push16 w s).draws = s.draws := by simp [push16]

@[simp] theorem pull_cpu : (pull s).2.cpu = { s.cpu with sp := s.cpu.sp + 1 } := by
  simp [pull, State.setSp]
@[simp] theorem pull_mpr : (pull s).2.mpr = s.mpr := by simp [pull]
@[simp] theorem pull_irq : (pull s).2.irq = s.irq := by simp [pull]
@[simp] theorem pull_timer : (pull s).2.timer = s.timer := by simp [pull]
@[simp] theorem pull_pad : (pull s).2.pad = s.pad := by simp [pull]
@[simp] theorem pull_rom : (pull s).2.rom = s.rom := by simp [pull]
@[simp] theorem pull_wram : (pull s).2.wram = s.wram := by simp [pull]
@[simp] theorem pull_cartRam : (pull s).2.cartRam = s.cartRam := by simp [pull]
@[simp] theorem pull_fallback : (pull s).2.fallback = s.fallback := by simp [pull]
@[simp] theorem pull_params : (pull s).2.params = s.params := by simp [pull]
@[simp] theorem pull_cycles : (pull s).2.cycles = s.cycles := by simp [pull]
@[simp] theorem pull_psgWrites : (pull s).2.psgWrites = s.psgWrites := by simp [pull]

@[simp] theorem pull16_cpu : (pull16 s).2.cpu = { s.cpu with sp := s.cpu.sp + 1 + 1 } := by
  simp [pull16]
@[simp] theorem pull16_mpr : (pull16 s).2.mpr = s.mpr := by simp [pull16]
@[simp] theorem pull16_irq : (pull16 s).2.irq = s.irq := by simp [pull16]
@[simp] theorem pull16_timer : (pull16 s).2.timer = s.timer := by simp [pull16]
@[simp] theorem pull16_pad : (pull16 s).2.pad = s.pad := by simp [pull16]
@[simp] theorem pull16_rom : (pull16 s).2.rom = s.rom := by simp [pull16]
@[simp] theorem pull16_wram : (pull16 s).2.wram = s.wram := by simp [pull16]
@[simp] theorem pull16_cartRam : (pull16 s).2.cartRam = s.cartRam := by simp [pull16]
@[simp] theorem pull16_fallback : (pull16 s).2.fallback = s.fallback := by simp [pull16]
@[simp] theorem pull16_params : (pull16 s).2.params = s.params := by simp [pull16]
@[simp] theorem pull16_cycles : (pull16 s).2.cycles = s.cycles := by simp [pull16]
@[simp] theorem pull16_psgWrites : (pull16 s).2.psgWrites = s.psgWrites := by simp [pull16]

/-! ### Plain storage -/

/-- A read of plain storage gives the byte there and changes nothing. -/
theorem memRead_storage {a : Word} {k : Nat} (h : s.place a = .rom k ∨ s.place a = .wram k ∨
    s.place a = .cart k ∨ s.place a = .store k) :
    memRead a s = (s.byteAt (s.place a), s) := by
  have hr : memRead a s = s.readPlace (s.place a) := rfl
  rcases h with h | h | h | h <;> rw [hr, h] <;> rfl

/-- A write changes no byte but the one its address leads to. -/
theorem byteAt_memWrite_other {a : Word} {pl : Place} (h : s.place a ≠ pl) (b : Byte) :
    (memWrite a b s).byteAt pl = s.byteAt pl := by
  have hw : memWrite a b s = s.writePlace (s.place a) b := rfl
  rw [hw]
  generalize s.place a = q at h
  cases q with
  | port r => cases r <;> cases pl <;> rfl
  | rom k => rfl
  | unmapped => rfl
  | wram k =>
    cases pl with
    | wram j => exact Memory.get_set_other b (fun e => h (by rw [e])) s.wram
    | _ => rfl
  | cart k =>
    cases pl with
    | cart j => exact Memory.get_set_other b (fun e => h (by rw [e])) s.cartRam
    | _ => rfl
  | store k =>
    cases pl with
    | store j => exact Memory.get_set_other b (fun e => h (by rw [e])) s.fallback
    | _ => rfl

/-- A write to work RAM, cartridge RAM or the fallback store is what the next read there gives. -/
theorem byteAt_memWrite_same {a : Word} {k : Nat} (h : s.place a = .wram k ∨ s.place a = .cart k ∨
    s.place a = .store k) (hw : s.memOk = true) (b : Byte) :
    (memWrite a b s).byteAt (s.place a) = b := by
  have he : memWrite a b s = s.writePlace (s.place a) b := rfl
  simp only [State.memOk, Bool.and_eq_true] at hw
  rcases h with h | h | h <;> rw [he, h]
  · exact Memory.get_set_same b k (by tauto)
  · exact Memory.get_set_same b k (by tauto)
  · exact Memory.get_set_same b k (by tauto)

end Sys2Proof.Machine
end

