-- ==== Sys2Proof/Laws/Canonical.lean ====
section
/-! SUPPORT. Every memory operation keeps the canonical form and the sizes of the memories, and the state
after reset has them (log 3). -/

namespace Sys2Proof.Machine

variable {p : Params} {v : Vdc}

/-- What `Vdc.memOk` says, part by part. -/
theorem Vdc.memOk_iff : v.memOk p = true ↔
    Store.wf 0 v.vram = true ∧ Store.below p.vramWords v.vram = true ∧ Store.wf 0 v.sat = true ∧
      Store.below 256 v.sat = true ∧ Store.wf default v.snap = true ∧ Store.wf [] v.frame = true ∧
      Store.wf [] v.lastFrame = true := by
  simp only [Vdc.memOk, Bool.and_eq_true, and_assoc]

/-- What `State.memOk` says, part by part. -/
theorem State.memOk_iff {s : State} : s.memOk = true ↔
    s.rom.wf = true ∧ s.wram.wf = true ∧ s.cartRam.wf = true ∧ s.fallback.wf = true ∧
      Store.below 8192 s.wram = true ∧ Store.below 8192 s.fallback = true ∧
      (s.params.cartRamSize = 0 ∨ Store.below s.params.cartRamSize s.cartRam = true) ∧
      s.vdc.memOk s.params = true ∧ s.vce.memOk = true := by
  simp only [State.memOk, Bool.and_eq_true, Bool.or_eq_true, beq_iff_eq, and_assoc]

/-! ### The VDC -/

theorem Vdc.memOk_vramWrite (h : v.memOk p = true) (a w : Word) :
    (v.vramWrite p a w).memOk p = true := by
  unfold Vdc.vramWrite
  split
  · rename_i ha
    rw [Vdc.memOk_iff] at h ⊢
    exact ⟨Store.wf_set w _ h.1, Store.below_set ha h.2.1, h.2.2⟩
  · exact h

theorem Vdc.memOk_dmaCopy (sd dd : Bool) (n : Nat) (a b : Word) (h : v.memOk p = true) :
    (Vdc.dmaCopy p sd dd n a b v).1.memOk p = true := by
  induction n generalizing a b v with
  | zero => exact h
  | succ n ih => exact ih _ _ (Vdc.memOk_vramWrite h _ _)

theorem Vdc.memOk_raise (h : v.memOk p = true) (e : VdcEvent) : (v.raise e).1.memOk p = true := by
  unfold Vdc.raise
  split
  · exact h
  · exact h

theorem Vdc.memOk_raiseIf (h : v.memOk p = true) (b : Bool) (e : VdcEvent) :
    (v.raiseIf b e).1.memOk p = true := by
  unfold Vdc.raiseIf
  split
  · exact Vdc.memOk_raise h e
  · exact h

/-- Fields the memories do not include may change freely. -/
theorem Vdc.memOk_congr {w : Vdc} (h : v.memOk p = true) (h1 : w.vram = v.vram) (h2 : w.sat = v.sat)
    (h3 : w.snap = v.snap) (h4 : w.frame = v.frame) (h5 : w.lastFrame = v.lastFrame) :
    w.memOk p = true := by
  unfold Vdc.memOk at h ⊢
  rw [h1, h2, h3, h4, h5]
  exact h

theorem Vdc.memOk_vramDma (h : v.memOk p = true) : (v.vramDma p).1.memOk p = true := by
  have hc := Vdc.memOk_dmaCopy (v.dcr.getLsbD 2) (v.dcr.getLsbD 3) (v.lenr.toNat + 1) v.sour v.desr h
  unfold Vdc.vramDma
  dsimp only
  generalize Vdc.dmaCopy p (v.dcr.getLsbD 2) (v.dcr.getLsbD 3) (v.lenr.toNat + 1) v.sour v.desr v = r
    at hc ⊢
  apply Vdc.memOk_raise
  exact Vdc.memOk_congr hc rfl rfl rfl rfl rfl

theorem Store.satFold_ok (f : Nat → Word) (l : List Nat) (hl : ∀ i ∈ l, i < 256) (m : Store Word)
    (h : Store.wf 0 m = true ∧ Store.below 256 m = true) :
    Store.wf 0 (l.foldl (fun sat i => Store.set 0 sat i (f i)) m) = true ∧
      Store.below 256 (l.foldl (fun sat i => Store.set 0 sat i (f i)) m) = true := by
  induction l generalizing m with
  | nil => exact h
  | cons i r ih =>
    exact ih (fun j hj => hl j (List.mem_cons_of_mem _ hj)) _
      ⟨Store.wf_set _ _ h.1, Store.below_set (hl i List.mem_cons_self) h.2⟩

theorem Vdc.memOk_satDma (h : v.memOk p = true) : (v.satDma p).1.memOk p = true := by
  unfold Vdc.satDma
  split
  · refine Vdc.memOk_raise ?_ _
    rw [Vdc.memOk_iff] at h ⊢
    have hs : Store.wf 0 (v.satCopy p) = true ∧ Store.below 256 (v.satCopy p) = true := by
      unfold Vdc.satCopy
      exact Store.satFold_ok _ _ (fun i hi => List.mem_range.1 hi) _ ⟨h.2.2.1, h.2.2.2.1⟩
    generalize v.satCopy p = m at hs ⊢
    exact ⟨h.1, h.2.1, hs.1, hs.2, h.2.2.2.2⟩
  · exact h

theorem Vdc.memOk_setReg (h : v.memOk p = true) (r : VdcReg) (w : Word) :
    (v.setReg r w).memOk p = true := by
  cases r <;> exact h

theorem Vdc.memOk_eitherEffect (h : v.memOk p = true) (r : VdcReg) :
    (v.eitherEffect r).memOk p = true := by
  cases r <;> exact h

theorem Vdc.memOk_highEffect (h : v.memOk p = true) (r : VdcReg) :
    (v.highEffect p r).1.memOk p = true := by
  cases r with
  | lenr => exact Vdc.memOk_vramDma h
  | _ => exact h

theorem Vdc.memOk_writeLow (h : v.memOk p = true) (b : Byte) : (v.writeLow b).memOk p = true := by
  unfold Vdc.writeLow
  split
  · exact h
  · split
    · exact Vdc.memOk_eitherEffect (Vdc.memOk_setReg h _ _) _
    · exact h

theorem Vdc.memOk_writeHigh (h : v.memOk p = true) (b : Byte) :
    (v.writeHigh p b).1.memOk p = true := by
  unfold Vdc.writeHigh
  split
  · exact Vdc.memOk_vramWrite (p := p) h _ _
  · split
    · exact Vdc.memOk_highEffect (Vdc.memOk_setReg h _ _) _
    · exact h

theorem Vdc.memOk_readHigh (h : v.memOk p = true) : (v.readHigh p).2.memOk p = true := by
  unfold Vdc.readHigh
  split
  · exact h
  · split
    · exact h
    · exact h

/-! ### The VCE -/

theorem Vce.memOk_setEntry {e : Vce} (h : e.memOk = true) (w : BitVec 9) :
    (e.setEntry w).memOk = true := by
  simp only [Vce.memOk, Bool.and_eq_true] at h ⊢
  exact ⟨Store.wf_set w _ h.1, Store.below_set e.cta.isLt h.2⟩

/-! ### The bus -/

/-- A read where an address leads keeps the memories. -/
theorem State.memOk_readPlace {s : State} (h : s.memOk = true) (pl : Place) :
    (s.readPlace pl).2.memOk = true := by
  have h0 := h
  rw [State.memOk_iff] at h
  cases pl with
  | port q =>
    cases q with
    | vdcHigh =>
      rw [State.memOk_iff]
      obtain ⟨h1, h2, h3, h4, h5, h6, h7, h8, h9⟩ := h
      exact ⟨h1, h2, h3, h4, h5, h6, h7, Vdc.memOk_readHigh h8, h9⟩
    | _ => exact h0
  | _ => exact h0

/-- MemRead keeps the memories. -/
theorem memOk_memRead {s : State} (h : s.memOk = true) (a : Word) : (memRead a s).2.memOk = true :=
  State.memOk_readPlace h _

/-- The offsets a page map leads to are inside the memories' sizes. -/
theorem placeOf_bounds (p : Params) (ph : Phys) :
    (∀ k, placeOf p ph = .wram k → k < 8192) ∧ (∀ k, placeOf p ph = .store k → k < 8192) ∧
      (∀ k, placeOf p ph = .cart k → p.cartRamSize = 0 ∨ k < p.cartRamSize) := by
  have ho : ph.offset.toNat < 8192 := ph.offset.isLt
  have hd : ∀ o, (∀ k, regionDecode p o = .store k → k = o) ∧ (∀ k, regionDecode p o ≠ .wram k) ∧
      (∀ k, regionDecode p o ≠ .cart k) := by
    intro o
    unfold regionDecode
    refine ⟨fun k => ?_, fun k => ?_, fun k => ?_⟩ <;>
      (repeat' split) <;> simp_all
  have hh : (∀ k, hwDecode p ph.offset.toNat = .store k → k = ph.offset.toNat) ∧
      (∀ k, hwDecode p ph.offset.toNat ≠ .wram k) ∧ (∀ k, hwDecode p ph.offset.toNat ≠ .cart k) := by
    unfold hwDecode
    split
    · simp
    · exact hd _
  unfold placeOf
  refine ⟨fun k => ?_, fun k => ?_, fun k => ?_⟩
  · repeat' split
    · simp
    · exact fun e => absurd e (hh.2.1 k)
    · simp
    · intro e; injection e with e; omega
    · simp
  · repeat' split
    · simp
    · intro e; have := hh.1 k e; omega
    · simp
    · simp
    · simp
  · repeat' split
    · simp
    · exact fun e => absurd e (hh.2.2 k)
    · intro e
      injection e with e
      rcases Nat.eq_zero_or_pos p.cartRamSize with hz | hp
      · exact .inl hz
      · exact .inr (e ▸ Nat.mod_lt _ hp)
    · simp
    · simp

/-- A device port write keeps the memories. -/
theorem State.memOk_portWrite {s : State} (h : s.memOk = true) (b : Byte) (q : HwPort) :
    (s.portWrite b q).memOk = true := by
  have h0 := h
  rw [State.memOk_iff] at h
  obtain ⟨h1, h2, h3, h4, h5, h6, h7, h8, h9⟩ := h
  cases q with
  | vdcLow => exact State.memOk_iff.2 ⟨h1, h2, h3, h4, h5, h6, h7, Vdc.memOk_writeLow h8 b, h9⟩
  | vdcHigh => exact State.memOk_iff.2 ⟨h1, h2, h3, h4, h5, h6, h7, Vdc.memOk_writeHigh h8 b, h9⟩
  | vceDataLow => exact State.memOk_iff.2 ⟨h1, h2, h3, h4, h5, h6, h7, h8, Vce.memOk_setEntry h9 _⟩
  | vceDataHigh => exact State.memOk_iff.2 ⟨h1, h2, h3, h4, h5, h6, h7, h8, Vce.memOk_setEntry h9 _⟩
  | _ => exact h0

/-- A write where an address leads keeps the memories. -/
theorem memOk_physWrite {s : State} (h : s.memOk = true) (ph : Phys) (b : Byte) :
    (physWrite ph b s).memOk = true := by
  have hb := placeOf_bounds s.params ph
  have h0 := h
  unfold physWrite
  rw [State.memOk_iff] at h
  obtain ⟨h1, h2, h3, h4, h5, h6, h7, h8, h9⟩ := h
  generalize hp : placeOf s.params ph = pl at hb
  cases pl with
  | rom k => exact h0
  | unmapped => exact h0
  | port q => exact State.memOk_portWrite h0 b q
  | wram k =>
    exact State.memOk_iff.2 ⟨h1, Memory.wf_set b k h2, h3, h4,
      Memory.below_set b (hb.1 k rfl) h5, h6, h7, h8, h9⟩
  | cart k =>
    refine State.memOk_iff.2 ⟨h1, h2, Memory.wf_set b k h3, h4, h5, h6, ?_, h8, h9⟩
    rcases hb.2.2 k rfl with hz | hk
    · exact .inl hz
    · exact h7.imp id fun h => Memory.below_set b hk h
  | store k =>
    exact State.memOk_iff.2 ⟨h1, h2, h3, Memory.wf_set b k h4, h5,
      Memory.below_set b (hb.2.1 k rfl) h6, h7, h8, h9⟩

/-- MemWrite keeps the memories. -/
theorem memOk_memWrite {s : State} (h : s.memOk = true) (a : Word) (b : Byte) :
    (memWrite a b s).memOk = true := memOk_physWrite h _ b

/-- The state after reset has canonical memories. -/
theorem memOk_reset : State.reset.memOk = true := by decide

end Sys2Proof.Machine
end

