-- ==== Sys2Proof/Laws/Step.lean ====
section
/-! SUPPORT. What the shared operations of a step can do: bus accesses do not look at the CPU, the fetch
moves PC, the device advance touches the devices, and the cases of a step. -/

namespace Sys2Proof.Machine

variable (s : State)

/-! ### The bus does not look at the CPU's registers or the cycle output -/

theorem State.readPlace_withCpu (c : Cpu) (pl : Place) :
    State.readPlace { s with cpu := c } pl =
      ((s.readPlace pl).1, { (s.readPlace pl).2 with cpu := c }) := by
  cases pl with
  | port q => cases q <;> rfl
  | _ => rfl

theorem memRead_withCpu (c : Cpu) (a : Word) :
    memRead a { s with cpu := c } = ((memRead a s).1, { (memRead a s).2 with cpu := c }) :=
  s.readPlace_withCpu c (s.place a)

theorem read16_withCpu (c : Cpu) (a : Word) :
    read16 a { s with cpu := c } = ((read16 a s).1, { (read16 a s).2 with cpu := c }) := by
  simp only [read16, memRead_withCpu]

theorem State.writePlace_withCpu (c : Cpu) (pl : Place) (b : Byte) :
    State.writePlace { s with cpu := c } pl b = { s.writePlace pl b with cpu := c } := by
  cases pl with
  | port q => cases q <;> rfl
  | _ => rfl

theorem memWrite_withCpu (c : Cpu) (a : Word) (b : Byte) :
    memWrite a b { s with cpu := c } = { memWrite a b s with cpu := c } :=
  s.writePlace_withCpu c (s.place a) b

theorem State.writePlace_withDraws (n : Nat) (pl : Place) (b : Byte) :
    State.writePlace { s with draws := n } pl b = { s.writePlace pl b with draws := n } := by
  cases pl with
  | port q => cases q <;> rfl
  | _ => rfl

/-- A write does not look at the draw counter. -/
theorem memWrite_withDraws (n : Nat) (a : Word) (b : Byte) :
    memWrite a b { s with draws := n } = { memWrite a b s with draws := n } :=
  s.writePlace_withDraws n (s.place a) b

/-- A push, as one write and the new S. -/
theorem push_eq (v : Byte) :
    push v s =
      { memWrite (stackAddr s.cpu.sp) v s with cpu := { s.cpu with sp := s.cpu.sp - 1 } } := by
  simp [push, State.setSp]

/-- A pull, as one read and the new S. -/
theorem pull_eq :
    pull s =
      ((memRead (stackAddr (s.cpu.sp + 1)) s).1,
        { (memRead (stackAddr (s.cpu.sp + 1)) s).2 with
          cpu := { s.cpu with sp := s.cpu.sp + 1 } }) :=
  memRead_withCpu s _ _

/-! ### The fetch -/

/-- A fetch reads the byte at PC and moves PC by one. -/
theorem fetch_eq :
    fetch s =
      ((memRead s.cpu.pc s).1,
        { (memRead s.cpu.pc s).2 with cpu := { s.cpu with pc := s.cpu.pc + 1 } }) := by
  simp [fetch, State.setPc]

theorem fetchBytes_cpu (n : Nat) :
    (fetchBytes n s).2.cpu = { s.cpu with pc := s.cpu.pc + BitVec.ofNat 16 n } := by
  induction n generalizing s with
  | zero => simp [fetchBytes]
  | succ n ih =>
    simp only [fetchBytes, ih, fetch_eq]
    congr 1
    rw [BitVec.add_assoc, Nat.add_comm n 1, BitVec.ofNat_add]
    rfl

theorem fetchBytes_length (n : Nat) : (fetchBytes n s).1.length = n := by
  induction n generalizing s with
  | zero => rfl
  | succ n ih => simp [fetchBytes, ih]

/-! ### The device advance -/

/-- The device advance changes the timer, the interrupt requests, the VDC and the draw counter alone. -/
theorem advance_only (c : Nat) :
    ∃ t q v, s.advance c = { s with timer := t, irq := q, vdc := v, draws := s.draws + 1 } :=
  ⟨_, _, _, rfl⟩


/-! ### The step -/

/-- What a step can do: idle, enter an interrupt, or run an instruction (60_exceptions.md R460). -/
theorem step_cases {t : State} (h : step s = .next t) :
    ((s.cpu.runState = .stopped ∨ s.cpu.runState = .waiting ∧ chosen s = none) ∧
      t = idleStep { s with psgWrites := [] }) ∨
    (s.cpu.runState ≠ .stopped ∧ s.cpu.afterSet = false ∧ ∃ src, chosen s = some src ∧
      t = interruptStep src
        { s with psgWrites := [], cpu := { s.cpu with runState := .running } }) ∨
    (s.cpu.runState ≠ .stopped ∧ (s.cpu.afterSet = true ∨ chosen s = none) ∧
      instrStep { s with psgWrites := [], cpu := { s.cpu with runState := .running } } =
        .next t) := by
  have hc : chosen { s with psgWrites := [] } = chosen s := rfl
  have hi := @Host.Outcome.next.inj State Fault Refusal
  unfold step at h
  simp only [hc] at h
  generalize idleStep { s with psgWrites := [] } = idle at h ⊢
  generalize instrStep
    { s with psgWrites := [], cpu := { s.cpu with runState := .running } } = run at h ⊢
  split at h
  · next hr => exact .inl ⟨.inl hr, (hi h).symm⟩
  · next hr hn => exact .inl ⟨.inr ⟨hr, hn⟩, (hi h).symm⟩
  · next r c hs hw =>
    have hne : s.cpu.runState ≠ .stopped := fun e => hs e
    split at h
    · next ha hch => exact .inr (.inl ⟨hne, ha, _, hch, (hi h).symm⟩)
    · next hx =>
      refine .inr (.inr ⟨hne, ?_, h⟩)
      cases ha : s.cpu.afterSet with
      | true => exact .inl rfl
      | false =>
        cases hch : chosen s with
        | none => exact .inr rfl
        | some src => exact absurd hch (hx src ha)

end Sys2Proof.Machine
end

