-- ==== Sys2Proof/Laws/Ops.lean ====
section
/-! SUPPORT. The shared operations of the meanings, each as one equation or one frame: reads alone, one
write, the stack, the interrupt entry and return, flags and addresses, the block loop, the timer, the
VRAM DMA and the VDC's lines. -/

namespace Sys2Proof.Machine

variable {s t u : State}

/-! ### Reads alone, and one write -/

theorem ReadsOnly.trans (h : ReadsOnly s t) (k : ReadsOnly t u) : ReadsOnly s u := by
  unfold ReadsOnly at *
  rw [k, h]

/-- A read of any place is a read alone (20_memory.md R100). -/
theorem State.readPlace_readsOnly (s : State) (pl : Place) : ReadsOnly s (s.readPlace pl).2 := by
  cases pl with
  | port q =>
    cases q with
    | vdcHigh =>
      simp only [State.readPlace, State.portRead, Vdc.readHigh, ReadsOnly]
      split
      · rfl
      · split <;> rfl
    | _ => rfl
  | _ => rfl

/-- Reads alone change no byte of memory. -/
theorem ReadsOnly.memoryKept (h : ReadsOnly s t) : MemoryKept s t := by
  intro pl
  rw [h]
  cases pl <;> rfl

/-- Reads alone do not move a place. -/
theorem ReadsOnly.place (h : ReadsOnly s t) (a : Word) : t.place a = s.place a := by
  rw [h]
  rfl

/-- One write after reads alone changes at most the byte its address led to before them. -/
theorem ReadsOnly.memoryKeptBut_memWrite (h : ReadsOnly s t) (a : Word) (b : Byte) :
    MemoryKeptBut [s.place a] s (memWrite a b t) := by
  intro pl hpl
  rw [byteAt_memWrite_other t (by rw [h.place]; exact fun e => hpl (by simp [e])),
    h.memoryKept pl]

/-- What memory holds depends on the four memories alone. -/
theorem MemoryKeptBut.congr {l : List Place} (h : MemoryKeptBut l s t) (h1 : u.rom = t.rom)
    (h2 : u.wram = t.wram) (h3 : u.cartRam = t.cartRam) (h4 : u.fallback = t.fallback) :
    MemoryKeptBut l s u := by
  intro pl hpl
  rw [← h pl hpl]
  cases pl <;> simp [State.byteAt, h1, h2, h3, h4]

/-! ### Addresses and flags -/

theorem stackAddr_eq (sp : Byte) : stackAddr sp = 0x2100 + sp.zeroExtend 16 := by
  revert sp
  decide

/-- The slot of an address is its top 3 bits as a number (20_memory.md R78). -/
theorem slotOf_val (a : Word) : (slotOf a).val = a.toNat / 8192 := by
  simp [slotOf, Nat.shiftRight_eq_div_pow]
  omega

/-- The offset of a translated address is its low 13 bits (20_memory.md R78). -/
theorem State.translate_offset (s : State) (a : Word) :
    (s.translate a).offset = BitVec.ofNat 13 (a.toNat % 8192) := by
  apply BitVec.eq_of_toNat_eq
  simp [State.translate]

/-- Every stack address lies in slot 1 (10_state.md R34). -/
theorem State.translate_stackAddr_page (s : State) (sp : Byte) :
    (s.translate (stackAddr sp)).page = s.mpr[1] := by
  have h : slotOf (stackAddr sp) = 1 := by
    revert sp
    decide
  exact congrArg (fun i : Fin 8 => s.mpr[i]) h

theorem zpAddr_eq (z : Byte) : zpAddr z = 0x2000 + z.zeroExtend 16 := by
  revert z
  decide

/-- N as a comparison (00_scope.md R14). -/
theorem msb_eq (v : Byte) : v.msb = decide (128 ≤ v.toNat) := by
  rw [BitVec.msb_eq_decide]

/-- The bits of a status byte (10_state.md R35). -/
theorem Flags.toByte_toNat (f : Flags) (b : Bool) :
    (f.toByte b).toNat = 128 * f.n.toNat + 64 * f.v.toNat + 32 * f.t.toNat + 16 * b.toNat
      + 8 * f.d.toNat + 4 * f.i.toNat + 2 * f.z.toNat + f.c.toNat := by
  obtain ⟨n, v, t, d, i, z, c⟩ := f
  revert n v t d i z c b
  decide

/-- A pulled status byte gives back the pushed flags, whatever B was (10_state.md R35). -/
theorem Flags.ofByte_toByte (f : Flags) (b : Bool) : Flags.ofByte (f.toByte b) = f := by
  obtain ⟨n, v, t, d, i, z, c⟩ := f
  revert n v t d i z c b
  decide

theorem joinBytes_lo_hi (w : Word) : joinBytes (loByte w) (hiByte w) = w := by
  apply BitVec.eq_of_getLsbD_eq
  intro i hi
  simp only [joinBytes, loByte, hiByte, BitVec.getLsbD_append, BitVec.getLsbD_extractLsb']
  by_cases h : i < 8
  · simp [h]
  · have h8 : i - 8 < 8 := by omega
    have h9 : 8 + (i - 8) = i := by omega
    simp [h, h8, h9]

/-! ### The stack, interrupt entry and return -/

/-- A 16-bit push, as two writes and the new S. -/
theorem push16_eq (w : Word) (s : State) :
    push16 w s =
      { memWrite (stackAddr (s.cpu.sp - 1)) (loByte w)
          (memWrite (stackAddr s.cpu.sp) (hiByte w) s) with
        cpu := { s.cpu with sp := s.cpu.sp - 2 } } := by
  have h : s.cpu.sp - 1 - 1 = s.cpu.sp - 2 := by rw [BitVec.sub_sub]; rfl
  simp only [push16, push_eq]
  rw [memWrite_withCpu, ← h]

/-- A 16-bit pull, as two reads and the new S. -/
theorem pull16_eq (s : State) :
    let lo := memRead (stackAddr (s.cpu.sp + 1)) s
    let hi := memRead (stackAddr (s.cpu.sp + 2)) lo.2
    pull16 s = (joinBytes lo.1 hi.1, { hi.2 with cpu := { s.cpu with sp := s.cpu.sp + 2 } }) := by
  have h : s.cpu.sp + 1 + 1 = s.cpu.sp + 2 := by rw [BitVec.add_assoc]; rfl
  have e := memRead_withCpu (memRead (stackAddr (s.cpu.sp + 1)) s).2
    { s.cpu with sp := s.cpu.sp + 1 } (stackAddr (s.cpu.sp + 2))
  simp only [pull16, pull_eq, h]
  rw [e]

/-! ### Block transfers -/

/-- The loop is a fold over its iterations in order (44_block_transfer.md R340). -/
theorem blockLoop_eq_foldl (st dt : BlockStep) (src dst : Word) (n k : Nat) (s : State) :
    blockLoop st dt src dst n k s =
      (List.range' k n).foldl
        (fun w j => memWrite (dt.addr dst j) (memRead (st.addr src j) w).1
          (memRead (st.addr src j) w).2) s := by
  induction n generalizing k s with
  | zero => rfl
  | succ n ih => rw [blockLoop, ih]; rfl

/-! ### The timer (60_exceptions.md R426) -/

theorem Timer.ticks_add (n k : Nat) (t : Timer) :
    Timer.ticks (n + k) t =
      ((Timer.ticks k (Timer.ticks n t).1).1,
        (Timer.ticks n t).2 || (Timer.ticks k (Timer.ticks n t).1).2) := by
  induction n generalizing t with
  | zero => simp [Timer.ticks]
  | succ n ih =>
    rw [Nat.succ_add, Timer.ticks, ih]
    simp [Timer.ticks, Bool.or_assoc]

/-- Ticks change the counter alone. -/
theorem Timer.ticks_only (n : Nat) (t : Timer) :
    (Timer.ticks n t).1.enabled = t.enabled ∧ (Timer.ticks n t).1.reload = t.reload ∧
      (Timer.ticks n t).1.prescale = t.prescale := by
  induction n generalizing t with
  | zero => exact ⟨rfl, rfl, rfl⟩
  | succ n ih =>
    rw [Timer.ticks]
    simp only [ih t.tick.1]
    unfold Timer.tick
    split <;> exact ⟨rfl, rfl, rfl⟩

/-- Fewer ticks than the counter has left, a counter of 0 standing for 128, count down and request
nothing. -/
theorem Timer.ticks_of_lt (n : Nat) (t : Timer)
    (h : n < (if t.counter = 0 then 128 else t.counter.toNat)) :
    Timer.ticks n t = ({ t with counter := t.counter - BitVec.ofNat 7 n }, false) := by
  induction n generalizing t with
  | zero => simp [Timer.ticks]
  | succ n ih =>
    have ht : t.tick = ({ t with counter := t.counter - 1 }, false) := by
      unfold Timer.tick
      rw [if_neg]
      intro hc
      have h1 : t.counter = 1 := by bv_omega
      simp [h1] at h
    have hn : n < (if t.counter - 1 = 0 then 128 else (t.counter - 1).toNat) := by
      split at h <;> split <;> bv_omega
    rw [Timer.ticks, ht, ih _ hn]
    simp
    bv_omega

/-- As many ticks as the counter has left, a counter of 0 standing for 128, leave the reload value in it and
request. -/
theorem Timer.ticks_underflow (t : Timer) :
    Timer.ticks (if t.counter = 0 then 128 else t.counter.toNat) t =
      ({ t with counter := t.reload }, true) := by
  obtain ⟨k, hk⟩ : ∃ k, (if t.counter = 0 then 128 else t.counter.toNat) = k + 1 := by
    split
    · exact ⟨127, rfl⟩
    · exact ⟨t.counter.toNat - 1, by bv_omega⟩
  have h0 : t.counter - BitVec.ofNat 7 k - 1 = 0 := by
    split at hk <;> bv_omega
  rw [hk, Timer.ticks_add, Timer.ticks_of_lt k t (by omega)]
  simp only [Timer.ticks, Timer.tick, h0, if_true, Bool.or_false, Bool.false_or]

/-! ### The VRAM DMA (61_video.md R531) -/

/-- The copy is a fold over its words in order, and each address ends n steps on. -/
theorem Vdc.dmaCopy_eq_foldl (p : Params) (sdec ddec : Bool) (n : Nat) (a b : Word) (v : Vdc) :
    let stepped (down : Bool) (x : Word) (k : Nat) : Word :=
      if down then x - BitVec.ofNat 16 k else x + BitVec.ofNat 16 k
    Vdc.dmaCopy p sdec ddec n a b v =
      ((List.range n).foldl
        (fun w k => w.vramWrite p (stepped ddec b k) (w.vramRead p (stepped sdec a k))) v,
        stepped sdec a n, stepped ddec b n) := by
  intro stepped
  have h0 : ∀ d x, stepped d x 0 = x := by intro d x; simp [stepped]
  have h1 : ∀ d x k, stepped d (dmaStep d x) k = stepped d x (k + 1) := by
    intro d x k
    cases d <;> simp [stepped, dmaStep] <;> bv_omega
  induction n generalizing a b v with
  | zero => simp [Vdc.dmaCopy, h0]
  | succ n ih =>
    rw [Vdc.dmaCopy, ih, List.range_succ_eq_map, List.foldl_cons, List.foldl_map]
    simp only [h0, h1]

/-! ### The VDC's lines (61_video.md R535) -/

theorem vdcThen_assoc (r : Vdc × Bool) (f g : Vdc → Vdc × Bool) :
    vdcThen (vdcThen r f) g = vdcThen r (fun w => vdcThen (f w) g) := by
  simp [vdcThen, Bool.or_assoc]

end Sys2Proof.Machine
end

