-- ==== Sys2Proof/Laws/PerInstr.lean ====
section
/-! SUPPORT. For every instruction: its opcode alone says how many operand bytes follow
(30_encoding.md R130, R131). -/

open Sys2Proof

/-- A well-formed instruction's encoding is its opcode and as many bytes as that opcode's layout has. -/
def Sys2Proof.Laws.Encoding.Statement (i : Instr) : Prop :=
  i.wf = true → ∃ op bs, encode i = op :: bs ∧ bs.length = (formatOf op).operandLen

theorem Sys2Proof.Laws.Encoding.brk (sig : Byte) :
    Sys2Proof.Laws.Encoding.Statement (.brk sig) :=
  fun _ => ⟨_, _, rfl, rfl⟩

theorem Sys2Proof.Laws.Encoding.oraIndX (zz : Byte) :
    Sys2Proof.Laws.Encoding.Statement (.oraIndX zz) :=
  fun _ => ⟨_, _, rfl, rfl⟩

theorem Sys2Proof.Laws.Encoding.sxy :
    Sys2Proof.Laws.Encoding.Statement .sxy :=
  fun _ => ⟨_, _, rfl, rfl⟩

theorem Sys2Proof.Laws.Encoding.st0 (nn : Byte) :
    Sys2Proof.Laws.Encoding.Statement (.st0 nn) :=
  fun _ => ⟨_, _, rfl, rfl⟩

theorem Sys2Proof.Laws.Encoding.tsbZp (zz : Byte) :
    Sys2Proof.Laws.Encoding.Statement (.tsbZp zz) :=
  fun _ => ⟨_, _, rfl, rfl⟩

theorem Sys2Proof.Laws.Encoding.oraZp (zz : Byte) :
    Sys2Proof.Laws.Encoding.Statement (.oraZp zz) :=
  fun _ => ⟨_, _, rfl, rfl⟩

theorem Sys2Proof.Laws.Encoding.aslZp (zz : Byte) :
    Sys2Proof.Laws.Encoding.Statement (.aslZp zz) :=
  fun _ => ⟨_, _, rfl, rfl⟩

theorem Sys2Proof.Laws.Encoding.rmb0 (zz : Byte) :
    Sys2Proof.Laws.Encoding.Statement (.rmb0 zz) :=
  fun _ => ⟨_, _, rfl, rfl⟩

theorem Sys2Proof.Laws.Encoding.php :
    Sys2Proof.Laws.Encoding.Statement .php :=
  fun _ => ⟨_, _, rfl, rfl⟩

theorem Sys2Proof.Laws.Encoding.oraImm (nn : Byte) :
    Sys2Proof.Laws.Encoding.Statement (.oraImm nn) :=
  fun _ => ⟨_, _, rfl, rfl⟩

theorem Sys2Proof.Laws.Encoding.aslA :
    Sys2Proof.Laws.Encoding.Statement .aslA :=
  fun _ => ⟨_, _, rfl, rfl⟩

theorem Sys2Proof.Laws.Encoding.tsbAbs (hhll : Word) :
    Sys2Proof.Laws.Encoding.Statement (.tsbAbs hhll) :=
  fun _ => ⟨_, _, rfl, rfl⟩

theorem Sys2Proof.Laws.Encoding.oraAbs (hhll : Word) :
    Sys2Proof.Laws.Encoding.Statement (.oraAbs hhll) :=
  fun _ => ⟨_, _, rfl, rfl⟩

theorem Sys2Proof.Laws.Encoding.aslAbs (hhll : Word) :
    Sys2Proof.Laws.Encoding.Statement (.aslAbs hhll) :=
  fun _ => ⟨_, _, rfl, rfl⟩

theorem Sys2Proof.Laws.Encoding.bbr0 (zz rr : Byte) :
    Sys2Proof.Laws.Encoding.Statement (.bbr0 zz rr) :=
  fun _ => ⟨_, _, rfl, rfl⟩

theorem Sys2Proof.Laws.Encoding.bpl (rr : Byte) :
    Sys2Proof.Laws.Encoding.Statement (.bpl rr) :=
  fun _ => ⟨_, _, rfl, rfl⟩

theorem Sys2Proof.Laws.Encoding.oraIndY (zz : Byte) :
    Sys2Proof.Laws.Encoding.Statement (.oraIndY zz) :=
  fun _ => ⟨_, _, rfl, rfl⟩

theorem Sys2Proof.Laws.Encoding.oraInd (zz : Byte) :
    Sys2Proof.Laws.Encoding.Statement (.oraInd zz) :=
  fun _ => ⟨_, _, rfl, rfl⟩

theorem Sys2Proof.Laws.Encoding.st1 (nn : Byte) :
    Sys2Proof.Laws.Encoding.Statement (.st1 nn) :=
  fun _ => ⟨_, _, rfl, rfl⟩

theorem Sys2Proof.Laws.Encoding.trbZp (zz : Byte) :
    Sys2Proof.Laws.Encoding.Statement (.trbZp zz) :=
  fun _ => ⟨_, _, rfl, rfl⟩

theorem Sys2Proof.Laws.Encoding.oraZpX (zz : Byte) :
    Sys2Proof.Laws.Encoding.Statement (.oraZpX zz) :=
  fun _ => ⟨_, _, rfl, rfl⟩

theorem Sys2Proof.Laws.Encoding.aslZpX (zz : Byte) :
    Sys2Proof.Laws.Encoding.Statement (.aslZpX zz) :=
  fun _ => ⟨_, _, rfl, rfl⟩

theorem Sys2Proof.Laws.Encoding.rmb1 (zz : Byte) :
    Sys2Proof.Laws.Encoding.Statement (.rmb1 zz) :=
  fun _ => ⟨_, _, rfl, rfl⟩

theorem Sys2Proof.Laws.Encoding.clc :
    Sys2Proof.Laws.Encoding.Statement .clc :=
  fun _ => ⟨_, _, rfl, rfl⟩

theorem Sys2Proof.Laws.Encoding.oraAbsY (hhll : Word) :
    Sys2Proof.Laws.Encoding.Statement (.oraAbsY hhll) :=
  fun _ => ⟨_, _, rfl, rfl⟩

theorem Sys2Proof.Laws.Encoding.incA :
    Sys2Proof.Laws.Encoding.Statement .incA :=
  fun _ => ⟨_, _, rfl, rfl⟩

theorem Sys2Proof.Laws.Encoding.trbAbs (hhll : Word) :
    Sys2Proof.Laws.Encoding.Statement (.trbAbs hhll) :=
  fun _ => ⟨_, _, rfl, rfl⟩

theorem Sys2Proof.Laws.Encoding.oraAbsX (hhll : Word) :
    Sys2Proof.Laws.Encoding.Statement (.oraAbsX hhll) :=
  fun _ => ⟨_, _, rfl, rfl⟩

theorem Sys2Proof.Laws.Encoding.aslAbsX (hhll : Word) :
    Sys2Proof.Laws.Encoding.Statement (.aslAbsX hhll) :=
  fun _ => ⟨_, _, rfl, rfl⟩

theorem Sys2Proof.Laws.Encoding.bbr1 (zz rr : Byte) :
    Sys2Proof.Laws.Encoding.Statement (.bbr1 zz rr) :=
  fun _ => ⟨_, _, rfl, rfl⟩

theorem Sys2Proof.Laws.Encoding.jsr (hhll : Word) :
    Sys2Proof.Laws.Encoding.Statement (.jsr hhll) :=
  fun _ => ⟨_, _, rfl, rfl⟩

theorem Sys2Proof.Laws.Encoding.andIndX (zz : Byte) :
    Sys2Proof.Laws.Encoding.Statement (.andIndX zz) :=
  fun _ => ⟨_, _, rfl, rfl⟩

theorem Sys2Proof.Laws.Encoding.sax :
    Sys2Proof.Laws.Encoding.Statement .sax :=
  fun _ => ⟨_, _, rfl, rfl⟩

theorem Sys2Proof.Laws.Encoding.st2 (nn : Byte) :
    Sys2Proof.Laws.Encoding.Statement (.st2 nn) :=
  fun _ => ⟨_, _, rfl, rfl⟩

theorem Sys2Proof.Laws.Encoding.bitZp (zz : Byte) :
    Sys2Proof.Laws.Encoding.Statement (.bitZp zz) :=
  fun _ => ⟨_, _, rfl, rfl⟩

theorem Sys2Proof.Laws.Encoding.andZp (zz : Byte) :
    Sys2Proof.Laws.Encoding.Statement (.andZp zz) :=
  fun _ => ⟨_, _, rfl, rfl⟩

theorem Sys2Proof.Laws.Encoding.rolZp (zz : Byte) :
    Sys2Proof.Laws.Encoding.Statement (.rolZp zz) :=
  fun _ => ⟨_, _, rfl, rfl⟩

theorem Sys2Proof.Laws.Encoding.rmb2 (zz : Byte) :
    Sys2Proof.Laws.Encoding.Statement (.rmb2 zz) :=
  fun _ => ⟨_, _, rfl, rfl⟩

theorem Sys2Proof.Laws.Encoding.plp :
    Sys2Proof.Laws.Encoding.Statement .plp :=
  fun _ => ⟨_, _, rfl, rfl⟩

theorem Sys2Proof.Laws.Encoding.andImm (nn : Byte) :
    Sys2Proof.Laws.Encoding.Statement (.andImm nn) :=
  fun _ => ⟨_, _, rfl, rfl⟩

theorem Sys2Proof.Laws.Encoding.rolA :
    Sys2Proof.Laws.Encoding.Statement .rolA :=
  fun _ => ⟨_, _, rfl, rfl⟩

theorem Sys2Proof.Laws.Encoding.bitAbs (hhll : Word) :
    Sys2Proof.Laws.Encoding.Statement (.bitAbs hhll) :=
  fun _ => ⟨_, _, rfl, rfl⟩

theorem Sys2Proof.Laws.Encoding.andAbs (hhll : Word) :
    Sys2Proof.Laws.Encoding.Statement (.andAbs hhll) :=
  fun _ => ⟨_, _, rfl, rfl⟩

theorem Sys2Proof.Laws.Encoding.rolAbs (hhll : Word) :
    Sys2Proof.Laws.Encoding.Statement (.rolAbs hhll) :=
  fun _ => ⟨_, _, rfl, rfl⟩

theorem Sys2Proof.Laws.Encoding.bbr2 (zz rr : Byte) :
    Sys2Proof.Laws.Encoding.Statement (.bbr2 zz rr) :=
  fun _ => ⟨_, _, rfl, rfl⟩

theorem Sys2Proof.Laws.Encoding.bmi (rr : Byte) :
    Sys2Proof.Laws.Encoding.Statement (.bmi rr) :=
  fun _ => ⟨_, _, rfl, rfl⟩

theorem Sys2Proof.Laws.Encoding.andIndY (zz : Byte) :
    Sys2Proof.Laws.Encoding.Statement (.andIndY zz) :=
  fun _ => ⟨_, _, rfl, rfl⟩

theorem Sys2Proof.Laws.Encoding.andInd (zz : Byte) :
    Sys2Proof.Laws.Encoding.Statement (.andInd zz) :=
  fun _ => ⟨_, _, rfl, rfl⟩

theorem Sys2Proof.Laws.Encoding.bitZpX (zz : Byte) :
    Sys2Proof.Laws.Encoding.Statement (.bitZpX zz) :=
  fun _ => ⟨_, _, rfl, rfl⟩

theorem Sys2Proof.Laws.Encoding.andZpX (zz : Byte) :
    Sys2Proof.Laws.Encoding.Statement (.andZpX zz) :=
  fun _ => ⟨_, _, rfl, rfl⟩

theorem Sys2Proof.Laws.Encoding.rolZpX (zz : Byte) :
    Sys2Proof.Laws.Encoding.Statement (.rolZpX zz) :=
  fun _ => ⟨_, _, rfl, rfl⟩

theorem Sys2Proof.Laws.Encoding.rmb3 (zz : Byte) :
    Sys2Proof.Laws.Encoding.Statement (.rmb3 zz) :=
  fun _ => ⟨_, _, rfl, rfl⟩

theorem Sys2Proof.Laws.Encoding.sec :
    Sys2Proof.Laws.Encoding.Statement .sec :=
  fun _ => ⟨_, _, rfl, rfl⟩

theorem Sys2Proof.Laws.Encoding.andAbsY (hhll : Word) :
    Sys2Proof.Laws.Encoding.Statement (.andAbsY hhll) :=
  fun _ => ⟨_, _, rfl, rfl⟩

theorem Sys2Proof.Laws.Encoding.decA :
    Sys2Proof.Laws.Encoding.Statement .decA :=
  fun _ => ⟨_, _, rfl, rfl⟩

theorem Sys2Proof.Laws.Encoding.bitAbsX (hhll : Word) :
    Sys2Proof.Laws.Encoding.Statement (.bitAbsX hhll) :=
  fun _ => ⟨_, _, rfl, rfl⟩

theorem Sys2Proof.Laws.Encoding.andAbsX (hhll : Word) :
    Sys2Proof.Laws.Encoding.Statement (.andAbsX hhll) :=
  fun _ => ⟨_, _, rfl, rfl⟩

theorem Sys2Proof.Laws.Encoding.rolAbsX (hhll : Word) :
    Sys2Proof.Laws.Encoding.Statement (.rolAbsX hhll) :=
  fun _ => ⟨_, _, rfl, rfl⟩

theorem Sys2Proof.Laws.Encoding.bbr3 (zz rr : Byte) :
    Sys2Proof.Laws.Encoding.Statement (.bbr3 zz rr) :=
  fun _ => ⟨_, _, rfl, rfl⟩

theorem Sys2Proof.Laws.Encoding.rti :
    Sys2Proof.Laws.Encoding.Statement .rti :=
  fun _ => ⟨_, _, rfl, rfl⟩

theorem Sys2Proof.Laws.Encoding.eorIndX (zz : Byte) :
    Sys2Proof.Laws.Encoding.Statement (.eorIndX zz) :=
  fun _ => ⟨_, _, rfl, rfl⟩

theorem Sys2Proof.Laws.Encoding.say :
    Sys2Proof.Laws.Encoding.Statement .say :=
  fun _ => ⟨_, _, rfl, rfl⟩

theorem Sys2Proof.Laws.Encoding.tma (nn : Byte) :
    Sys2Proof.Laws.Encoding.Statement (.tma nn) :=
  fun _ => ⟨_, _, rfl, rfl⟩

theorem Sys2Proof.Laws.Encoding.bsr (rr : Byte) :
    Sys2Proof.Laws.Encoding.Statement (.bsr rr) :=
  fun _ => ⟨_, _, rfl, rfl⟩

theorem Sys2Proof.Laws.Encoding.eorZp (zz : Byte) :
    Sys2Proof.Laws.Encoding.Statement (.eorZp zz) :=
  fun _ => ⟨_, _, rfl, rfl⟩

theorem Sys2Proof.Laws.Encoding.lsrZp (zz : Byte) :
    Sys2Proof.Laws.Encoding.Statement (.lsrZp zz) :=
  fun _ => ⟨_, _, rfl, rfl⟩

theorem Sys2Proof.Laws.Encoding.rmb4 (zz : Byte) :
    Sys2Proof.Laws.Encoding.Statement (.rmb4 zz) :=
  fun _ => ⟨_, _, rfl, rfl⟩

theorem Sys2Proof.Laws.Encoding.pha :
    Sys2Proof.Laws.Encoding.Statement .pha :=
  fun _ => ⟨_, _, rfl, rfl⟩

theorem Sys2Proof.Laws.Encoding.eorImm (nn : Byte) :
    Sys2Proof.Laws.Encoding.Statement (.eorImm nn) :=
  fun _ => ⟨_, _, rfl, rfl⟩

theorem Sys2Proof.Laws.Encoding.lsrA :
    Sys2Proof.Laws.Encoding.Statement .lsrA :=
  fun _ => ⟨_, _, rfl, rfl⟩

theorem Sys2Proof.Laws.Encoding.jmpAbs (hhll : Word) :
    Sys2Proof.Laws.Encoding.Statement (.jmpAbs hhll) :=
  fun _ => ⟨_, _, rfl, rfl⟩

theorem Sys2Proof.Laws.Encoding.eorAbs (hhll : Word) :
    Sys2Proof.Laws.Encoding.Statement (.eorAbs hhll) :=
  fun _ => ⟨_, _, rfl, rfl⟩

theorem Sys2Proof.Laws.Encoding.lsrAbs (hhll : Word) :
    Sys2Proof.Laws.Encoding.Statement (.lsrAbs hhll) :=
  fun _ => ⟨_, _, rfl, rfl⟩

theorem Sys2Proof.Laws.Encoding.bbr4 (zz rr : Byte) :
    Sys2Proof.Laws.Encoding.Statement (.bbr4 zz rr) :=
  fun _ => ⟨_, _, rfl, rfl⟩

theorem Sys2Proof.Laws.Encoding.bvc (rr : Byte) :
    Sys2Proof.Laws.Encoding.Statement (.bvc rr) :=
  fun _ => ⟨_, _, rfl, rfl⟩

theorem Sys2Proof.Laws.Encoding.eorIndY (zz : Byte) :
    Sys2Proof.Laws.Encoding.Statement (.eorIndY zz) :=
  fun _ => ⟨_, _, rfl, rfl⟩

theorem Sys2Proof.Laws.Encoding.eorInd (zz : Byte) :
    Sys2Proof.Laws.Encoding.Statement (.eorInd zz) :=
  fun _ => ⟨_, _, rfl, rfl⟩

theorem Sys2Proof.Laws.Encoding.tam (nn : Byte) :
    Sys2Proof.Laws.Encoding.Statement (.tam nn) :=
  fun _ => ⟨_, _, rfl, rfl⟩

theorem Sys2Proof.Laws.Encoding.csl :
    Sys2Proof.Laws.Encoding.Statement .csl :=
  fun _ => ⟨_, _, rfl, rfl⟩

theorem Sys2Proof.Laws.Encoding.eorZpX (zz : Byte) :
    Sys2Proof.Laws.Encoding.Statement (.eorZpX zz) :=
  fun _ => ⟨_, _, rfl, rfl⟩

theorem Sys2Proof.Laws.Encoding.lsrZpX (zz : Byte) :
    Sys2Proof.Laws.Encoding.Statement (.lsrZpX zz) :=
  fun _ => ⟨_, _, rfl, rfl⟩

theorem Sys2Proof.Laws.Encoding.rmb5 (zz : Byte) :
    Sys2Proof.Laws.Encoding.Statement (.rmb5 zz) :=
  fun _ => ⟨_, _, rfl, rfl⟩

theorem Sys2Proof.Laws.Encoding.cli :
    Sys2Proof.Laws.Encoding.Statement .cli :=
  fun _ => ⟨_, _, rfl, rfl⟩

theorem Sys2Proof.Laws.Encoding.eorAbsY (hhll : Word) :
    Sys2Proof.Laws.Encoding.Statement (.eorAbsY hhll) :=
  fun _ => ⟨_, _, rfl, rfl⟩

theorem Sys2Proof.Laws.Encoding.phy :
    Sys2Proof.Laws.Encoding.Statement .phy :=
  fun _ => ⟨_, _, rfl, rfl⟩

theorem Sys2Proof.Laws.Encoding.eorAbsX (hhll : Word) :
    Sys2Proof.Laws.Encoding.Statement (.eorAbsX hhll) :=
  fun _ => ⟨_, _, rfl, rfl⟩

theorem Sys2Proof.Laws.Encoding.lsrAbsX (hhll : Word) :
    Sys2Proof.Laws.Encoding.Statement (.lsrAbsX hhll) :=
  fun _ => ⟨_, _, rfl, rfl⟩

theorem Sys2Proof.Laws.Encoding.bbr5 (zz rr : Byte) :
    Sys2Proof.Laws.Encoding.Statement (.bbr5 zz rr) :=
  fun _ => ⟨_, _, rfl, rfl⟩

theorem Sys2Proof.Laws.Encoding.rts :
    Sys2Proof.Laws.Encoding.Statement .rts :=
  fun _ => ⟨_, _, rfl, rfl⟩

theorem Sys2Proof.Laws.Encoding.adcIndX (zz : Byte) :
    Sys2Proof.Laws.Encoding.Statement (.adcIndX zz) :=
  fun _ => ⟨_, _, rfl, rfl⟩

theorem Sys2Proof.Laws.Encoding.cla :
    Sys2Proof.Laws.Encoding.Statement .cla :=
  fun _ => ⟨_, _, rfl, rfl⟩

theorem Sys2Proof.Laws.Encoding.stzZp (zz : Byte) :
    Sys2Proof.Laws.Encoding.Statement (.stzZp zz) :=
  fun _ => ⟨_, _, rfl, rfl⟩

theorem Sys2Proof.Laws.Encoding.adcZp (zz : Byte) :
    Sys2Proof.Laws.Encoding.Statement (.adcZp zz) :=
  fun _ => ⟨_, _, rfl, rfl⟩

theorem Sys2Proof.Laws.Encoding.rorZp (zz : Byte) :
    Sys2Proof.Laws.Encoding.Statement (.rorZp zz) :=
  fun _ => ⟨_, _, rfl, rfl⟩

theorem Sys2Proof.Laws.Encoding.rmb6 (zz : Byte) :
    Sys2Proof.Laws.Encoding.Statement (.rmb6 zz) :=
  fun _ => ⟨_, _, rfl, rfl⟩

theorem Sys2Proof.Laws.Encoding.pla :
    Sys2Proof.Laws.Encoding.Statement .pla :=
  fun _ => ⟨_, _, rfl, rfl⟩

theorem Sys2Proof.Laws.Encoding.adcImm (nn : Byte) :
    Sys2Proof.Laws.Encoding.Statement (.adcImm nn) :=
  fun _ => ⟨_, _, rfl, rfl⟩

theorem Sys2Proof.Laws.Encoding.rorA :
    Sys2Proof.Laws.Encoding.Statement .rorA :=
  fun _ => ⟨_, _, rfl, rfl⟩

theorem Sys2Proof.Laws.Encoding.jmpInd (hhll : Word) :
    Sys2Proof.Laws.Encoding.Statement (.jmpInd hhll) :=
  fun _ => ⟨_, _, rfl, rfl⟩

theorem Sys2Proof.Laws.Encoding.adcAbs (hhll : Word) :
    Sys2Proof.Laws.Encoding.Statement (.adcAbs hhll) :=
  fun _ => ⟨_, _, rfl, rfl⟩

theorem Sys2Proof.Laws.Encoding.rorAbs (hhll : Word) :
    Sys2Proof.Laws.Encoding.Statement (.rorAbs hhll) :=
  fun _ => ⟨_, _, rfl, rfl⟩

theorem Sys2Proof.Laws.Encoding.bbr6 (zz rr : Byte) :
    Sys2Proof.Laws.Encoding.Statement (.bbr6 zz rr) :=
  fun _ => ⟨_, _, rfl, rfl⟩

theorem Sys2Proof.Laws.Encoding.bvs (rr : Byte) :
    Sys2Proof.Laws.Encoding.Statement (.bvs rr) :=
  fun _ => ⟨_, _, rfl, rfl⟩

theorem Sys2Proof.Laws.Encoding.adcIndY (zz : Byte) :
    Sys2Proof.Laws.Encoding.Statement (.adcIndY zz) :=
  fun _ => ⟨_, _, rfl, rfl⟩

theorem Sys2Proof.Laws.Encoding.adcInd (zz : Byte) :
    Sys2Proof.Laws.Encoding.Statement (.adcInd zz) :=
  fun _ => ⟨_, _, rfl, rfl⟩

theorem Sys2Proof.Laws.Encoding.tii (src dst len : Word) :
    Sys2Proof.Laws.Encoding.Statement (.tii src dst len) :=
  fun _ => ⟨_, _, rfl, rfl⟩

theorem Sys2Proof.Laws.Encoding.stzZpX (zz : Byte) :
    Sys2Proof.Laws.Encoding.Statement (.stzZpX zz) :=
  fun _ => ⟨_, _, rfl, rfl⟩

theorem Sys2Proof.Laws.Encoding.adcZpX (zz : Byte) :
    Sys2Proof.Laws.Encoding.Statement (.adcZpX zz) :=
  fun _ => ⟨_, _, rfl, rfl⟩

theorem Sys2Proof.Laws.Encoding.rorZpX (zz : Byte) :
    Sys2Proof.Laws.Encoding.Statement (.rorZpX zz) :=
  fun _ => ⟨_, _, rfl, rfl⟩

theorem Sys2Proof.Laws.Encoding.rmb7 (zz : Byte) :
    Sys2Proof.Laws.Encoding.Statement (.rmb7 zz) :=
  fun _ => ⟨_, _, rfl, rfl⟩

theorem Sys2Proof.Laws.Encoding.sei :
    Sys2Proof.Laws.Encoding.Statement .sei :=
  fun _ => ⟨_, _, rfl, rfl⟩

theorem Sys2Proof.Laws.Encoding.adcAbsY (hhll : Word) :
    Sys2Proof.Laws.Encoding.Statement (.adcAbsY hhll) :=
  fun _ => ⟨_, _, rfl, rfl⟩

theorem Sys2Proof.Laws.Encoding.ply :
    Sys2Proof.Laws.Encoding.Statement .ply :=
  fun _ => ⟨_, _, rfl, rfl⟩

theorem Sys2Proof.Laws.Encoding.jmpIndX (hhll : Word) :
    Sys2Proof.Laws.Encoding.Statement (.jmpIndX hhll) :=
  fun _ => ⟨_, _, rfl, rfl⟩

theorem Sys2Proof.Laws.Encoding.adcAbsX (hhll : Word) :
    Sys2Proof.Laws.Encoding.Statement (.adcAbsX hhll) :=
  fun _ => ⟨_, _, rfl, rfl⟩

theorem Sys2Proof.Laws.Encoding.rorAbsX (hhll : Word) :
    Sys2Proof.Laws.Encoding.Statement (.rorAbsX hhll) :=
  fun _ => ⟨_, _, rfl, rfl⟩

theorem Sys2Proof.Laws.Encoding.bbr7 (zz rr : Byte) :
    Sys2Proof.Laws.Encoding.Statement (.bbr7 zz rr) :=
  fun _ => ⟨_, _, rfl, rfl⟩

theorem Sys2Proof.Laws.Encoding.bra (rr : Byte) :
    Sys2Proof.Laws.Encoding.Statement (.bra rr) :=
  fun _ => ⟨_, _, rfl, rfl⟩

theorem Sys2Proof.Laws.Encoding.staIndX (zz : Byte) :
    Sys2Proof.Laws.Encoding.Statement (.staIndX zz) :=
  fun _ => ⟨_, _, rfl, rfl⟩

theorem Sys2Proof.Laws.Encoding.clx :
    Sys2Proof.Laws.Encoding.Statement .clx :=
  fun _ => ⟨_, _, rfl, rfl⟩

theorem Sys2Proof.Laws.Encoding.tstImmZp (nn zz : Byte) :
    Sys2Proof.Laws.Encoding.Statement (.tstImmZp nn zz) :=
  fun _ => ⟨_, _, rfl, rfl⟩

theorem Sys2Proof.Laws.Encoding.styZp (zz : Byte) :
    Sys2Proof.Laws.Encoding.Statement (.styZp zz) :=
  fun _ => ⟨_, _, rfl, rfl⟩

theorem Sys2Proof.Laws.Encoding.staZp (zz : Byte) :
    Sys2Proof.Laws.Encoding.Statement (.staZp zz) :=
  fun _ => ⟨_, _, rfl, rfl⟩

theorem Sys2Proof.Laws.Encoding.stxZp (zz : Byte) :
    Sys2Proof.Laws.Encoding.Statement (.stxZp zz) :=
  fun _ => ⟨_, _, rfl, rfl⟩

theorem Sys2Proof.Laws.Encoding.smb0 (zz : Byte) :
    Sys2Proof.Laws.Encoding.Statement (.smb0 zz) :=
  fun _ => ⟨_, _, rfl, rfl⟩

theorem Sys2Proof.Laws.Encoding.dey :
    Sys2Proof.Laws.Encoding.Statement .dey :=
  fun _ => ⟨_, _, rfl, rfl⟩

theorem Sys2Proof.Laws.Encoding.bitImm (nn : Byte) :
    Sys2Proof.Laws.Encoding.Statement (.bitImm nn) :=
  fun _ => ⟨_, _, rfl, rfl⟩

theorem Sys2Proof.Laws.Encoding.txa :
    Sys2Proof.Laws.Encoding.Statement .txa :=
  fun _ => ⟨_, _, rfl, rfl⟩

theorem Sys2Proof.Laws.Encoding.styAbs (hhll : Word) :
    Sys2Proof.Laws.Encoding.Statement (.styAbs hhll) :=
  fun _ => ⟨_, _, rfl, rfl⟩

theorem Sys2Proof.Laws.Encoding.staAbs (hhll : Word) :
    Sys2Proof.Laws.Encoding.Statement (.staAbs hhll) :=
  fun _ => ⟨_, _, rfl, rfl⟩

theorem Sys2Proof.Laws.Encoding.stxAbs (hhll : Word) :
    Sys2Proof.Laws.Encoding.Statement (.stxAbs hhll) :=
  fun _ => ⟨_, _, rfl, rfl⟩

theorem Sys2Proof.Laws.Encoding.bbs0 (zz rr : Byte) :
    Sys2Proof.Laws.Encoding.Statement (.bbs0 zz rr) :=
  fun _ => ⟨_, _, rfl, rfl⟩

theorem Sys2Proof.Laws.Encoding.bcc (rr : Byte) :
    Sys2Proof.Laws.Encoding.Statement (.bcc rr) :=
  fun _ => ⟨_, _, rfl, rfl⟩

theorem Sys2Proof.Laws.Encoding.staIndY (zz : Byte) :
    Sys2Proof.Laws.Encoding.Statement (.staIndY zz) :=
  fun _ => ⟨_, _, rfl, rfl⟩

theorem Sys2Proof.Laws.Encoding.staInd (zz : Byte) :
    Sys2Proof.Laws.Encoding.Statement (.staInd zz) :=
  fun _ => ⟨_, _, rfl, rfl⟩

theorem Sys2Proof.Laws.Encoding.tstImmAbs (nn : Byte) (hhll : Word) :
    Sys2Proof.Laws.Encoding.Statement (.tstImmAbs nn hhll) :=
  fun _ => ⟨_, _, rfl, rfl⟩

theorem Sys2Proof.Laws.Encoding.styZpX (zz : Byte) :
    Sys2Proof.Laws.Encoding.Statement (.styZpX zz) :=
  fun _ => ⟨_, _, rfl, rfl⟩

theorem Sys2Proof.Laws.Encoding.staZpX (zz : Byte) :
    Sys2Proof.Laws.Encoding.Statement (.staZpX zz) :=
  fun _ => ⟨_, _, rfl, rfl⟩

theorem Sys2Proof.Laws.Encoding.stxZpY (zz : Byte) :
    Sys2Proof.Laws.Encoding.Statement (.stxZpY zz) :=
  fun _ => ⟨_, _, rfl, rfl⟩

theorem Sys2Proof.Laws.Encoding.smb1 (zz : Byte) :
    Sys2Proof.Laws.Encoding.Statement (.smb1 zz) :=
  fun _ => ⟨_, _, rfl, rfl⟩

theorem Sys2Proof.Laws.Encoding.tya :
    Sys2Proof.Laws.Encoding.Statement .tya :=
  fun _ => ⟨_, _, rfl, rfl⟩

theorem Sys2Proof.Laws.Encoding.staAbsY (hhll : Word) :
    Sys2Proof.Laws.Encoding.Statement (.staAbsY hhll) :=
  fun _ => ⟨_, _, rfl, rfl⟩

theorem Sys2Proof.Laws.Encoding.txs :
    Sys2Proof.Laws.Encoding.Statement .txs :=
  fun _ => ⟨_, _, rfl, rfl⟩

theorem Sys2Proof.Laws.Encoding.stzAbs (hhll : Word) :
    Sys2Proof.Laws.Encoding.Statement (.stzAbs hhll) :=
  fun _ => ⟨_, _, rfl, rfl⟩

theorem Sys2Proof.Laws.Encoding.staAbsX (hhll : Word) :
    Sys2Proof.Laws.Encoding.Statement (.staAbsX hhll) :=
  fun _ => ⟨_, _, rfl, rfl⟩

theorem Sys2Proof.Laws.Encoding.stzAbsX (hhll : Word) :
    Sys2Proof.Laws.Encoding.Statement (.stzAbsX hhll) :=
  fun _ => ⟨_, _, rfl, rfl⟩

theorem Sys2Proof.Laws.Encoding.bbs1 (zz rr : Byte) :
    Sys2Proof.Laws.Encoding.Statement (.bbs1 zz rr) :=
  fun _ => ⟨_, _, rfl, rfl⟩

theorem Sys2Proof.Laws.Encoding.ldyImm (nn : Byte) :
    Sys2Proof.Laws.Encoding.Statement (.ldyImm nn) :=
  fun _ => ⟨_, _, rfl, rfl⟩

theorem Sys2Proof.Laws.Encoding.ldaIndX (zz : Byte) :
    Sys2Proof.Laws.Encoding.Statement (.ldaIndX zz) :=
  fun _ => ⟨_, _, rfl, rfl⟩

theorem Sys2Proof.Laws.Encoding.ldxImm (nn : Byte) :
    Sys2Proof.Laws.Encoding.Statement (.ldxImm nn) :=
  fun _ => ⟨_, _, rfl, rfl⟩

theorem Sys2Proof.Laws.Encoding.tstImmZpX (nn zz : Byte) :
    Sys2Proof.Laws.Encoding.Statement (.tstImmZpX nn zz) :=
  fun _ => ⟨_, _, rfl, rfl⟩

theorem Sys2Proof.Laws.Encoding.ldyZp (zz : Byte) :
    Sys2Proof.Laws.Encoding.Statement (.ldyZp zz) :=
  fun _ => ⟨_, _, rfl, rfl⟩

theorem Sys2Proof.Laws.Encoding.ldaZp (zz : Byte) :
    Sys2Proof.Laws.Encoding.Statement (.ldaZp zz) :=
  fun _ => ⟨_, _, rfl, rfl⟩

theorem Sys2Proof.Laws.Encoding.ldxZp (zz : Byte) :
    Sys2Proof.Laws.Encoding.Statement (.ldxZp zz) :=
  fun _ => ⟨_, _, rfl, rfl⟩

theorem Sys2Proof.Laws.Encoding.smb2 (zz : Byte) :
    Sys2Proof.Laws.Encoding.Statement (.smb2 zz) :=
  fun _ => ⟨_, _, rfl, rfl⟩

theorem Sys2Proof.Laws.Encoding.tay :
    Sys2Proof.Laws.Encoding.Statement .tay :=
  fun _ => ⟨_, _, rfl, rfl⟩

theorem Sys2Proof.Laws.Encoding.ldaImm (nn : Byte) :
    Sys2Proof.Laws.Encoding.Statement (.ldaImm nn) :=
  fun _ => ⟨_, _, rfl, rfl⟩

theorem Sys2Proof.Laws.Encoding.tax :
    Sys2Proof.Laws.Encoding.Statement .tax :=
  fun _ => ⟨_, _, rfl, rfl⟩

theorem Sys2Proof.Laws.Encoding.ldyAbs (hhll : Word) :
    Sys2Proof.Laws.Encoding.Statement (.ldyAbs hhll) :=
  fun _ => ⟨_, _, rfl, rfl⟩

theorem Sys2Proof.Laws.Encoding.ldaAbs (hhll : Word) :
    Sys2Proof.Laws.Encoding.Statement (.ldaAbs hhll) :=
  fun _ => ⟨_, _, rfl, rfl⟩

theorem Sys2Proof.Laws.Encoding.ldxAbs (hhll : Word) :
    Sys2Proof.Laws.Encoding.Statement (.ldxAbs hhll) :=
  fun _ => ⟨_, _, rfl, rfl⟩

theorem Sys2Proof.Laws.Encoding.bbs2 (zz rr : Byte) :
    Sys2Proof.Laws.Encoding.Statement (.bbs2 zz rr) :=
  fun _ => ⟨_, _, rfl, rfl⟩

theorem Sys2Proof.Laws.Encoding.bcs (rr : Byte) :
    Sys2Proof.Laws.Encoding.Statement (.bcs rr) :=
  fun _ => ⟨_, _, rfl, rfl⟩

theorem Sys2Proof.Laws.Encoding.ldaIndY (zz : Byte) :
    Sys2Proof.Laws.Encoding.Statement (.ldaIndY zz) :=
  fun _ => ⟨_, _, rfl, rfl⟩

theorem Sys2Proof.Laws.Encoding.ldaInd (zz : Byte) :
    Sys2Proof.Laws.Encoding.Statement (.ldaInd zz) :=
  fun _ => ⟨_, _, rfl, rfl⟩

theorem Sys2Proof.Laws.Encoding.tstImmAbsX (nn : Byte) (hhll : Word) :
    Sys2Proof.Laws.Encoding.Statement (.tstImmAbsX nn hhll) :=
  fun _ => ⟨_, _, rfl, rfl⟩

theorem Sys2Proof.Laws.Encoding.ldyZpX (zz : Byte) :
    Sys2Proof.Laws.Encoding.Statement (.ldyZpX zz) :=
  fun _ => ⟨_, _, rfl, rfl⟩

theorem Sys2Proof.Laws.Encoding.ldaZpX (zz : Byte) :
    Sys2Proof.Laws.Encoding.Statement (.ldaZpX zz) :=
  fun _ => ⟨_, _, rfl, rfl⟩

theorem Sys2Proof.Laws.Encoding.ldxZpY (zz : Byte) :
    Sys2Proof.Laws.Encoding.Statement (.ldxZpY zz) :=
  fun _ => ⟨_, _, rfl, rfl⟩

theorem Sys2Proof.Laws.Encoding.smb3 (zz : Byte) :
    Sys2Proof.Laws.Encoding.Statement (.smb3 zz) :=
  fun _ => ⟨_, _, rfl, rfl⟩

theorem Sys2Proof.Laws.Encoding.clv :
    Sys2Proof.Laws.Encoding.Statement .clv :=
  fun _ => ⟨_, _, rfl, rfl⟩

theorem Sys2Proof.Laws.Encoding.ldaAbsY (hhll : Word) :
    Sys2Proof.Laws.Encoding.Statement (.ldaAbsY hhll) :=
  fun _ => ⟨_, _, rfl, rfl⟩

theorem Sys2Proof.Laws.Encoding.tsx :
    Sys2Proof.Laws.Encoding.Statement .tsx :=
  fun _ => ⟨_, _, rfl, rfl⟩

theorem Sys2Proof.Laws.Encoding.ldyAbsX (hhll : Word) :
    Sys2Proof.Laws.Encoding.Statement (.ldyAbsX hhll) :=
  fun _ => ⟨_, _, rfl, rfl⟩

theorem Sys2Proof.Laws.Encoding.ldaAbsX (hhll : Word) :
    Sys2Proof.Laws.Encoding.Statement (.ldaAbsX hhll) :=
  fun _ => ⟨_, _, rfl, rfl⟩

theorem Sys2Proof.Laws.Encoding.ldxAbsY (hhll : Word) :
    Sys2Proof.Laws.Encoding.Statement (.ldxAbsY hhll) :=
  fun _ => ⟨_, _, rfl, rfl⟩

theorem Sys2Proof.Laws.Encoding.bbs3 (zz rr : Byte) :
    Sys2Proof.Laws.Encoding.Statement (.bbs3 zz rr) :=
  fun _ => ⟨_, _, rfl, rfl⟩

theorem Sys2Proof.Laws.Encoding.cpyImm (nn : Byte) :
    Sys2Proof.Laws.Encoding.Statement (.cpyImm nn) :=
  fun _ => ⟨_, _, rfl, rfl⟩

theorem Sys2Proof.Laws.Encoding.cmpIndX (zz : Byte) :
    Sys2Proof.Laws.Encoding.Statement (.cmpIndX zz) :=
  fun _ => ⟨_, _, rfl, rfl⟩

theorem Sys2Proof.Laws.Encoding.cly :
    Sys2Proof.Laws.Encoding.Statement .cly :=
  fun _ => ⟨_, _, rfl, rfl⟩

theorem Sys2Proof.Laws.Encoding.tdd (src dst len : Word) :
    Sys2Proof.Laws.Encoding.Statement (.tdd src dst len) :=
  fun _ => ⟨_, _, rfl, rfl⟩

theorem Sys2Proof.Laws.Encoding.cpyZp (zz : Byte) :
    Sys2Proof.Laws.Encoding.Statement (.cpyZp zz) :=
  fun _ => ⟨_, _, rfl, rfl⟩

theorem Sys2Proof.Laws.Encoding.cmpZp (zz : Byte) :
    Sys2Proof.Laws.Encoding.Statement (.cmpZp zz) :=
  fun _ => ⟨_, _, rfl, rfl⟩

theorem Sys2Proof.Laws.Encoding.decZp (zz : Byte) :
    Sys2Proof.Laws.Encoding.Statement (.decZp zz) :=
  fun _ => ⟨_, _, rfl, rfl⟩

theorem Sys2Proof.Laws.Encoding.smb4 (zz : Byte) :
    Sys2Proof.Laws.Encoding.Statement (.smb4 zz) :=
  fun _ => ⟨_, _, rfl, rfl⟩

theorem Sys2Proof.Laws.Encoding.iny :
    Sys2Proof.Laws.Encoding.Statement .iny :=
  fun _ => ⟨_, _, rfl, rfl⟩

theorem Sys2Proof.Laws.Encoding.cmpImm (nn : Byte) :
    Sys2Proof.Laws.Encoding.Statement (.cmpImm nn) :=
  fun _ => ⟨_, _, rfl, rfl⟩

theorem Sys2Proof.Laws.Encoding.dex :
    Sys2Proof.Laws.Encoding.Statement .dex :=
  fun _ => ⟨_, _, rfl, rfl⟩

theorem Sys2Proof.Laws.Encoding.wai :
    Sys2Proof.Laws.Encoding.Statement .wai :=
  fun _ => ⟨_, _, rfl, rfl⟩

theorem Sys2Proof.Laws.Encoding.cpyAbs (hhll : Word) :
    Sys2Proof.Laws.Encoding.Statement (.cpyAbs hhll) :=
  fun _ => ⟨_, _, rfl, rfl⟩

theorem Sys2Proof.Laws.Encoding.cmpAbs (hhll : Word) :
    Sys2Proof.Laws.Encoding.Statement (.cmpAbs hhll) :=
  fun _ => ⟨_, _, rfl, rfl⟩

theorem Sys2Proof.Laws.Encoding.decAbs (hhll : Word) :
    Sys2Proof.Laws.Encoding.Statement (.decAbs hhll) :=
  fun _ => ⟨_, _, rfl, rfl⟩

theorem Sys2Proof.Laws.Encoding.bbs4 (zz rr : Byte) :
    Sys2Proof.Laws.Encoding.Statement (.bbs4 zz rr) :=
  fun _ => ⟨_, _, rfl, rfl⟩

theorem Sys2Proof.Laws.Encoding.bne (rr : Byte) :
    Sys2Proof.Laws.Encoding.Statement (.bne rr) :=
  fun _ => ⟨_, _, rfl, rfl⟩

theorem Sys2Proof.Laws.Encoding.cmpIndY (zz : Byte) :
    Sys2Proof.Laws.Encoding.Statement (.cmpIndY zz) :=
  fun _ => ⟨_, _, rfl, rfl⟩

theorem Sys2Proof.Laws.Encoding.cmpInd (zz : Byte) :
    Sys2Proof.Laws.Encoding.Statement (.cmpInd zz) :=
  fun _ => ⟨_, _, rfl, rfl⟩

theorem Sys2Proof.Laws.Encoding.tin (src dst len : Word) :
    Sys2Proof.Laws.Encoding.Statement (.tin src dst len) :=
  fun _ => ⟨_, _, rfl, rfl⟩

theorem Sys2Proof.Laws.Encoding.csh :
    Sys2Proof.Laws.Encoding.Statement .csh :=
  fun _ => ⟨_, _, rfl, rfl⟩

theorem Sys2Proof.Laws.Encoding.cmpZpX (zz : Byte) :
    Sys2Proof.Laws.Encoding.Statement (.cmpZpX zz) :=
  fun _ => ⟨_, _, rfl, rfl⟩

theorem Sys2Proof.Laws.Encoding.decZpX (zz : Byte) :
    Sys2Proof.Laws.Encoding.Statement (.decZpX zz) :=
  fun _ => ⟨_, _, rfl, rfl⟩

theorem Sys2Proof.Laws.Encoding.smb5 (zz : Byte) :
    Sys2Proof.Laws.Encoding.Statement (.smb5 zz) :=
  fun _ => ⟨_, _, rfl, rfl⟩

theorem Sys2Proof.Laws.Encoding.cld :
    Sys2Proof.Laws.Encoding.Statement .cld :=
  fun _ => ⟨_, _, rfl, rfl⟩

theorem Sys2Proof.Laws.Encoding.cmpAbsY (hhll : Word) :
    Sys2Proof.Laws.Encoding.Statement (.cmpAbsY hhll) :=
  fun _ => ⟨_, _, rfl, rfl⟩

theorem Sys2Proof.Laws.Encoding.phx :
    Sys2Proof.Laws.Encoding.Statement .phx :=
  fun _ => ⟨_, _, rfl, rfl⟩

theorem Sys2Proof.Laws.Encoding.stp :
    Sys2Proof.Laws.Encoding.Statement .stp :=
  fun _ => ⟨_, _, rfl, rfl⟩

theorem Sys2Proof.Laws.Encoding.cmpAbsX (hhll : Word) :
    Sys2Proof.Laws.Encoding.Statement (.cmpAbsX hhll) :=
  fun _ => ⟨_, _, rfl, rfl⟩

theorem Sys2Proof.Laws.Encoding.decAbsX (hhll : Word) :
    Sys2Proof.Laws.Encoding.Statement (.decAbsX hhll) :=
  fun _ => ⟨_, _, rfl, rfl⟩

theorem Sys2Proof.Laws.Encoding.bbs5 (zz rr : Byte) :
    Sys2Proof.Laws.Encoding.Statement (.bbs5 zz rr) :=
  fun _ => ⟨_, _, rfl, rfl⟩

theorem Sys2Proof.Laws.Encoding.cpxImm (nn : Byte) :
    Sys2Proof.Laws.Encoding.Statement (.cpxImm nn) :=
  fun _ => ⟨_, _, rfl, rfl⟩

theorem Sys2Proof.Laws.Encoding.sbcIndX (zz : Byte) :
    Sys2Proof.Laws.Encoding.Statement (.sbcIndX zz) :=
  fun _ => ⟨_, _, rfl, rfl⟩

theorem Sys2Proof.Laws.Encoding.tia (src dst len : Word) :
    Sys2Proof.Laws.Encoding.Statement (.tia src dst len) :=
  fun _ => ⟨_, _, rfl, rfl⟩

theorem Sys2Proof.Laws.Encoding.cpxZp (zz : Byte) :
    Sys2Proof.Laws.Encoding.Statement (.cpxZp zz) :=
  fun _ => ⟨_, _, rfl, rfl⟩

theorem Sys2Proof.Laws.Encoding.sbcZp (zz : Byte) :
    Sys2Proof.Laws.Encoding.Statement (.sbcZp zz) :=
  fun _ => ⟨_, _, rfl, rfl⟩

theorem Sys2Proof.Laws.Encoding.incZp (zz : Byte) :
    Sys2Proof.Laws.Encoding.Statement (.incZp zz) :=
  fun _ => ⟨_, _, rfl, rfl⟩

theorem Sys2Proof.Laws.Encoding.smb6 (zz : Byte) :
    Sys2Proof.Laws.Encoding.Statement (.smb6 zz) :=
  fun _ => ⟨_, _, rfl, rfl⟩

theorem Sys2Proof.Laws.Encoding.inx :
    Sys2Proof.Laws.Encoding.Statement .inx :=
  fun _ => ⟨_, _, rfl, rfl⟩

theorem Sys2Proof.Laws.Encoding.sbcImm (nn : Byte) :
    Sys2Proof.Laws.Encoding.Statement (.sbcImm nn) :=
  fun _ => ⟨_, _, rfl, rfl⟩

theorem Sys2Proof.Laws.Encoding.nop :
    Sys2Proof.Laws.Encoding.Statement .nop :=
  fun _ => ⟨_, _, rfl, rfl⟩

theorem Sys2Proof.Laws.Encoding.cpxAbs (hhll : Word) :
    Sys2Proof.Laws.Encoding.Statement (.cpxAbs hhll) :=
  fun _ => ⟨_, _, rfl, rfl⟩

theorem Sys2Proof.Laws.Encoding.sbcAbs (hhll : Word) :
    Sys2Proof.Laws.Encoding.Statement (.sbcAbs hhll) :=
  fun _ => ⟨_, _, rfl, rfl⟩

theorem Sys2Proof.Laws.Encoding.incAbs (hhll : Word) :
    Sys2Proof.Laws.Encoding.Statement (.incAbs hhll) :=
  fun _ => ⟨_, _, rfl, rfl⟩

theorem Sys2Proof.Laws.Encoding.bbs6 (zz rr : Byte) :
    Sys2Proof.Laws.Encoding.Statement (.bbs6 zz rr) :=
  fun _ => ⟨_, _, rfl, rfl⟩

theorem Sys2Proof.Laws.Encoding.beq (rr : Byte) :
    Sys2Proof.Laws.Encoding.Statement (.beq rr) :=
  fun _ => ⟨_, _, rfl, rfl⟩

theorem Sys2Proof.Laws.Encoding.sbcIndY (zz : Byte) :
    Sys2Proof.Laws.Encoding.Statement (.sbcIndY zz) :=
  fun _ => ⟨_, _, rfl, rfl⟩

theorem Sys2Proof.Laws.Encoding.sbcInd (zz : Byte) :
    Sys2Proof.Laws.Encoding.Statement (.sbcInd zz) :=
  fun _ => ⟨_, _, rfl, rfl⟩

theorem Sys2Proof.Laws.Encoding.tai (src dst len : Word) :
    Sys2Proof.Laws.Encoding.Statement (.tai src dst len) :=
  fun _ => ⟨_, _, rfl, rfl⟩

theorem Sys2Proof.Laws.Encoding.set :
    Sys2Proof.Laws.Encoding.Statement .set :=
  fun _ => ⟨_, _, rfl, rfl⟩

theorem Sys2Proof.Laws.Encoding.sbcZpX (zz : Byte) :
    Sys2Proof.Laws.Encoding.Statement (.sbcZpX zz) :=
  fun _ => ⟨_, _, rfl, rfl⟩

theorem Sys2Proof.Laws.Encoding.incZpX (zz : Byte) :
    Sys2Proof.Laws.Encoding.Statement (.incZpX zz) :=
  fun _ => ⟨_, _, rfl, rfl⟩

theorem Sys2Proof.Laws.Encoding.smb7 (zz : Byte) :
    Sys2Proof.Laws.Encoding.Statement (.smb7 zz) :=
  fun _ => ⟨_, _, rfl, rfl⟩

theorem Sys2Proof.Laws.Encoding.sed :
    Sys2Proof.Laws.Encoding.Statement .sed :=
  fun _ => ⟨_, _, rfl, rfl⟩

theorem Sys2Proof.Laws.Encoding.sbcAbsY (hhll : Word) :
    Sys2Proof.Laws.Encoding.Statement (.sbcAbsY hhll) :=
  fun _ => ⟨_, _, rfl, rfl⟩

theorem Sys2Proof.Laws.Encoding.plx :
    Sys2Proof.Laws.Encoding.Statement .plx :=
  fun _ => ⟨_, _, rfl, rfl⟩

theorem Sys2Proof.Laws.Encoding.sbcAbsX (hhll : Word) :
    Sys2Proof.Laws.Encoding.Statement (.sbcAbsX hhll) :=
  fun _ => ⟨_, _, rfl, rfl⟩

theorem Sys2Proof.Laws.Encoding.incAbsX (hhll : Word) :
    Sys2Proof.Laws.Encoding.Statement (.incAbsX hhll) :=
  fun _ => ⟨_, _, rfl, rfl⟩

theorem Sys2Proof.Laws.Encoding.bbs7 (zz rr : Byte) :
    Sys2Proof.Laws.Encoding.Statement (.bbs7 zz rr) :=
  fun _ => ⟨_, _, rfl, rfl⟩

theorem Sys2Proof.Laws.Encoding.undefined (op : Byte) :
    Sys2Proof.Laws.Encoding.Statement (.undefined op) := fun h =>
  ⟨op, [], rfl, by
    revert op
    decide⟩
end

