-- ==== Sys2Proof/Tests/Slice0.lean ====
section
/-! SUPPORT. Small tests. The instruction words and the expected values are those of the opcode map
(30_encoding.md R158) and of spec/95_test_vectors.md (L2, cited by rule), not the model's own answers. The
last part shows, for each statement with hypotheses, states and operands that meet them. -/

namespace Sys2Proof.Machine

/-! ### Helpers: a state with some fields replaced -/

/-- A state with other A, X and Y. -/
def State.withAXY (s : State) (a x y : Byte) : State :=
  { s with cpu := { s.cpu with a := a, x := x, y := y } }

/-- A state with the flags of a byte, T aside. -/
def State.withP (s : State) (b : Byte) : State :=
  { s with cpu := { s.cpu with p := { Flags.ofByte b with t := false } } }

/-- A state with T and AfterSet as SET leaves them. -/
def State.afterSetInstr (s : State) : State :=
  { s with cpu := { s.cpu with afterSet := true, p := { s.cpu.p with t := true } } }

end Sys2Proof.Machine

namespace Sys2Proof.Tests

open Sys2Proof Sys2Proof.Machine

/-! ### Helpers: start states and outcomes -/

/-- The default parameters with a value for each open one, so that the kernel can evaluate a test. -/
def testParams : Params :=
  { Params.default with
    mprAlias := none, tsbTrbNv := .operand, regionBit := false, cdBit := true }

/-- The common start state of 95_test_vectors.md with some bytes of work RAM: slot 0 is the hardware page,
slot 1 work RAM, slot 7 ROM bank 0, S = $FF, I = 0. -/
def base (ram : Memory) : State :=
  { State.reset with
    params := testParams
    mpr := #v[0xFF, 0xF8, 0, 0, 0, 0, 0, 0]
    wram := ram
    cpu :=
      { State.reset.cpu with
        sp := 0xFF, pc := 0xE000, p := { State.reset.cpu.p with i := false } } }

/-- The next state of an outcome. -/
def nextOf (o : Out) (s : State) : State :=
  match o with
  | .next t => t
  | .fault _ => s
  | .refused _ => s

/-- The state after an instruction's meaning. -/
def run (i : Instr) (s : State) : State := nextOf (exec i s) s

/-- The state after a step. -/
def stepped (s : State) : State := nextOf (step s) s

/-- A, the flag byte with B = 0, and the cost. -/
def apc (s : State) : Byte × Byte × Nat := (s.cpu.a, s.cpu.p.toByte false, s.cycles)

/-- Each list of bytes decodes to its instruction with nothing left over. -/
def decodesTo (l : List (List Byte × Instr)) : Bool :=
  l.all fun e =>
    match decode e.1 with
    | .ok r => r.1 == e.2 && r.2.isEmpty
    | .error _ => false

/-! ### Well-formedness -/

/-- A defined opcode is not an undefined instruction. -/
theorem test_wf_refuses_defined_opcode : (Instr.undefined 0xA9).wf = false := by decide

theorem test_wf_accepts_undefined_opcode : (Instr.undefined 0x33).wf = true := by decide

/-! ### Decoding -/

/-- Row 0 of the opcode map (30_encoding.md R158). -/
theorem test_decode_map_row0 : decodesTo
    [([0x00, 0x12], .brk 0x12), ([0x01, 0x34], .oraIndX 0x34), ([0x02], .sxy),
      ([0x03, 0x56], .st0 0x56), ([0x04, 0x34], .tsbZp 0x34), ([0x05, 0x34], .oraZp 0x34),
      ([0x06, 0x34], .aslZp 0x34), ([0x07, 0x34], .rmb0 0x34), ([0x08], .php),
      ([0x09, 0x56], .oraImm 0x56), ([0x0A], .aslA), ([0x0B], .undefined 0x0B),
      ([0x0C, 0xCD, 0xAB], .tsbAbs 0xABCD), ([0x0D, 0xCD, 0xAB], .oraAbs 0xABCD),
      ([0x0E, 0xCD, 0xAB], .aslAbs 0xABCD), ([0x0F, 0x34, 0xFE], .bbr0 0x34 0xFE)] = true := by
  decide

/-- Row 1 of the opcode map (30_encoding.md R158). -/
theorem test_decode_map_row1 : decodesTo
    [([0x10, 0xFE], .bpl 0xFE), ([0x11, 0x34], .oraIndY 0x34), ([0x12, 0x34], .oraInd 0x34),
      ([0x13, 0x56], .st1 0x56), ([0x14, 0x34], .trbZp 0x34), ([0x15, 0x34], .oraZpX 0x34),
      ([0x16, 0x34], .aslZpX 0x34), ([0x17, 0x34], .rmb1 0x34), ([0x18], .clc),
      ([0x19, 0xCD, 0xAB], .oraAbsY 0xABCD), ([0x1A], .incA), ([0x1B], .undefined 0x1B),
      ([0x1C, 0xCD, 0xAB], .trbAbs 0xABCD), ([0x1D, 0xCD, 0xAB], .oraAbsX 0xABCD),
      ([0x1E, 0xCD, 0xAB], .aslAbsX 0xABCD), ([0x1F, 0x34, 0xFE], .bbr1 0x34 0xFE)] = true := by
  decide

/-- Row 2 of the opcode map (30_encoding.md R158). -/
theorem test_decode_map_row2 : decodesTo
    [([0x20, 0xCD, 0xAB], .jsr 0xABCD), ([0x21, 0x34], .andIndX 0x34), ([0x22], .sax),
      ([0x23, 0x56], .st2 0x56), ([0x24, 0x34], .bitZp 0x34), ([0x25, 0x34], .andZp 0x34),
      ([0x26, 0x34], .rolZp 0x34), ([0x27, 0x34], .rmb2 0x34), ([0x28], .plp),
      ([0x29, 0x56], .andImm 0x56), ([0x2A], .rolA), ([0x2B], .undefined 0x2B),
      ([0x2C, 0xCD, 0xAB], .bitAbs 0xABCD), ([0x2D, 0xCD, 0xAB], .andAbs 0xABCD),
      ([0x2E, 0xCD, 0xAB], .rolAbs 0xABCD), ([0x2F, 0x34, 0xFE], .bbr2 0x34 0xFE)] = true := by
  decide

/-- Row 3 of the opcode map (30_encoding.md R158). -/
theorem test_decode_map_row3 : decodesTo
    [([0x30, 0xFE], .bmi 0xFE), ([0x31, 0x34], .andIndY 0x34), ([0x32, 0x34], .andInd 0x34),
      ([0x33], .undefined 0x33), ([0x34, 0x34], .bitZpX 0x34), ([0x35, 0x34], .andZpX 0x34),
      ([0x36, 0x34], .rolZpX 0x34), ([0x37, 0x34], .rmb3 0x34), ([0x38], .sec),
      ([0x39, 0xCD, 0xAB], .andAbsY 0xABCD), ([0x3A], .decA), ([0x3B], .undefined 0x3B),
      ([0x3C, 0xCD, 0xAB], .bitAbsX 0xABCD), ([0x3D, 0xCD, 0xAB], .andAbsX 0xABCD),
      ([0x3E, 0xCD, 0xAB], .rolAbsX 0xABCD), ([0x3F, 0x34, 0xFE], .bbr3 0x34 0xFE)] = true := by
  decide

/-- Row 4 of the opcode map (30_encoding.md R158). -/
theorem test_decode_map_row4 : decodesTo
    [([0x40], .rti), ([0x41, 0x34], .eorIndX 0x34), ([0x42], .say), ([0x43, 0x56], .tma 0x56),
      ([0x44, 0xFE], .bsr 0xFE), ([0x45, 0x34], .eorZp 0x34), ([0x46, 0x34], .lsrZp 0x34),
      ([0x47, 0x34], .rmb4 0x34), ([0x48], .pha), ([0x49, 0x56], .eorImm 0x56), ([0x4A], .lsrA),
      ([0x4B], .undefined 0x4B), ([0x4C, 0xCD, 0xAB], .jmpAbs 0xABCD),
      ([0x4D, 0xCD, 0xAB], .eorAbs 0xABCD), ([0x4E, 0xCD, 0xAB], .lsrAbs 0xABCD),
      ([0x4F, 0x34, 0xFE], .bbr4 0x34 0xFE)] = true := by
  decide

/-- Row 5 of the opcode map (30_encoding.md R158). -/
theorem test_decode_map_row5 : decodesTo
    [([0x50, 0xFE], .bvc 0xFE), ([0x51, 0x34], .eorIndY 0x34), ([0x52, 0x34], .eorInd 0x34),
      ([0x53, 0x56], .tam 0x56), ([0x54], .csl), ([0x55, 0x34], .eorZpX 0x34),
      ([0x56, 0x34], .lsrZpX 0x34), ([0x57, 0x34], .rmb5 0x34), ([0x58], .cli),
      ([0x59, 0xCD, 0xAB], .eorAbsY 0xABCD), ([0x5A], .phy), ([0x5B], .undefined 0x5B),
      ([0x5C], .undefined 0x5C), ([0x5D, 0xCD, 0xAB], .eorAbsX 0xABCD),
      ([0x5E, 0xCD, 0xAB], .lsrAbsX 0xABCD), ([0x5F, 0x34, 0xFE], .bbr5 0x34 0xFE)] = true := by
  decide

/-- Row 6 of the opcode map (30_encoding.md R158). -/
theorem test_decode_map_row6 : decodesTo
    [([0x60], .rts), ([0x61, 0x34], .adcIndX 0x34), ([0x62], .cla), ([0x63], .undefined 0x63),
      ([0x64, 0x34], .stzZp 0x34), ([0x65, 0x34], .adcZp 0x34), ([0x66, 0x34], .rorZp 0x34),
      ([0x67, 0x34], .rmb6 0x34), ([0x68], .pla), ([0x69, 0x56], .adcImm 0x56), ([0x6A], .rorA),
      ([0x6B], .undefined 0x6B), ([0x6C, 0xCD, 0xAB], .jmpInd 0xABCD),
      ([0x6D, 0xCD, 0xAB], .adcAbs 0xABCD), ([0x6E, 0xCD, 0xAB], .rorAbs 0xABCD),
      ([0x6F, 0x34, 0xFE], .bbr6 0x34 0xFE)] = true := by
  decide

/-- Row 7 of the opcode map (30_encoding.md R158). -/
theorem test_decode_map_row7 : decodesTo
    [([0x70, 0xFE], .bvs 0xFE), ([0x71, 0x34], .adcIndY 0x34), ([0x72, 0x34], .adcInd 0x34),
      ([0x73, 0x01, 0x02, 0x03, 0x04, 0x05, 0x06], .tii 0x0201 0x0403 0x0605),
      ([0x74, 0x34], .stzZpX 0x34), ([0x75, 0x34], .adcZpX 0x34), ([0x76, 0x34], .rorZpX 0x34),
      ([0x77, 0x34], .rmb7 0x34), ([0x78], .sei), ([0x79, 0xCD, 0xAB], .adcAbsY 0xABCD),
      ([0x7A], .ply), ([0x7B], .undefined 0x7B), ([0x7C, 0xCD, 0xAB], .jmpIndX 0xABCD),
      ([0x7D, 0xCD, 0xAB], .adcAbsX 0xABCD), ([0x7E, 0xCD, 0xAB], .rorAbsX 0xABCD),
      ([0x7F, 0x34, 0xFE], .bbr7 0x34 0xFE)] = true := by
  decide

/-- Row 8 of the opcode map (30_encoding.md R158). -/
theorem test_decode_map_row8 : decodesTo
    [([0x80, 0xFE], .bra 0xFE), ([0x81, 0x34], .staIndX 0x34), ([0x82], .clx),
      ([0x83, 0x56, 0x34], .tstImmZp 0x56 0x34), ([0x84, 0x34], .styZp 0x34),
      ([0x85, 0x34], .staZp 0x34), ([0x86, 0x34], .stxZp 0x34), ([0x87, 0x34], .smb0 0x34),
      ([0x88], .dey), ([0x89, 0x56], .bitImm 0x56), ([0x8A], .txa), ([0x8B], .undefined 0x8B),
      ([0x8C, 0xCD, 0xAB], .styAbs 0xABCD), ([0x8D, 0xCD, 0xAB], .staAbs 0xABCD),
      ([0x8E, 0xCD, 0xAB], .stxAbs 0xABCD), ([0x8F, 0x34, 0xFE], .bbs0 0x34 0xFE)] = true := by
  decide

/-- Row 9 of the opcode map (30_encoding.md R158). -/
theorem test_decode_map_row9 : decodesTo
    [([0x90, 0xFE], .bcc 0xFE), ([0x91, 0x34], .staIndY 0x34), ([0x92, 0x34], .staInd 0x34),
      ([0x93, 0x56, 0xCD, 0xAB], .tstImmAbs 0x56 0xABCD), ([0x94, 0x34], .styZpX 0x34),
      ([0x95, 0x34], .staZpX 0x34), ([0x96, 0x34], .stxZpY 0x34), ([0x97, 0x34], .smb1 0x34),
      ([0x98], .tya), ([0x99, 0xCD, 0xAB], .staAbsY 0xABCD), ([0x9A], .txs),
      ([0x9B], .undefined 0x9B), ([0x9C, 0xCD, 0xAB], .stzAbs 0xABCD),
      ([0x9D, 0xCD, 0xAB], .staAbsX 0xABCD), ([0x9E, 0xCD, 0xAB], .stzAbsX 0xABCD),
      ([0x9F, 0x34, 0xFE], .bbs1 0x34 0xFE)] = true := by
  decide

/-- Row A of the opcode map (30_encoding.md R158). -/
theorem test_decode_map_rowA : decodesTo
    [([0xA0, 0x56], .ldyImm 0x56), ([0xA1, 0x34], .ldaIndX 0x34), ([0xA2, 0x56], .ldxImm 0x56),
      ([0xA3, 0x56, 0x34], .tstImmZpX 0x56 0x34), ([0xA4, 0x34], .ldyZp 0x34),
      ([0xA5, 0x34], .ldaZp 0x34), ([0xA6, 0x34], .ldxZp 0x34), ([0xA7, 0x34], .smb2 0x34),
      ([0xA8], .tay), ([0xA9, 0x56], .ldaImm 0x56), ([0xAA], .tax), ([0xAB], .undefined 0xAB),
      ([0xAC, 0xCD, 0xAB], .ldyAbs 0xABCD), ([0xAD, 0xCD, 0xAB], .ldaAbs 0xABCD),
      ([0xAE, 0xCD, 0xAB], .ldxAbs 0xABCD), ([0xAF, 0x34, 0xFE], .bbs2 0x34 0xFE)] = true := by
  decide

/-- Row B of the opcode map (30_encoding.md R158). -/
theorem test_decode_map_rowB : decodesTo
    [([0xB0, 0xFE], .bcs 0xFE), ([0xB1, 0x34], .ldaIndY 0x34), ([0xB2, 0x34], .ldaInd 0x34),
      ([0xB3, 0x56, 0xCD, 0xAB], .tstImmAbsX 0x56 0xABCD), ([0xB4, 0x34], .ldyZpX 0x34),
      ([0xB5, 0x34], .ldaZpX 0x34), ([0xB6, 0x34], .ldxZpY 0x34), ([0xB7, 0x34], .smb3 0x34),
      ([0xB8], .clv), ([0xB9, 0xCD, 0xAB], .ldaAbsY 0xABCD), ([0xBA], .tsx),
      ([0xBB], .undefined 0xBB), ([0xBC, 0xCD, 0xAB], .ldyAbsX 0xABCD),
      ([0xBD, 0xCD, 0xAB], .ldaAbsX 0xABCD), ([0xBE, 0xCD, 0xAB], .ldxAbsY 0xABCD),
      ([0xBF, 0x34, 0xFE], .bbs3 0x34 0xFE)] = true := by
  decide

/-- Row C of the opcode map (30_encoding.md R158). -/
theorem test_decode_map_rowC : decodesTo
    [([0xC0, 0x56], .cpyImm 0x56), ([0xC1, 0x34], .cmpIndX 0x34), ([0xC2], .cly),
      ([0xC3, 0x01, 0x02, 0x03, 0x04, 0x05, 0x06], .tdd 0x0201 0x0403 0x0605),
      ([0xC4, 0x34], .cpyZp 0x34), ([0xC5, 0x34], .cmpZp 0x34), ([0xC6, 0x34], .decZp 0x34),
      ([0xC7, 0x34], .smb4 0x34), ([0xC8], .iny), ([0xC9, 0x56], .cmpImm 0x56), ([0xCA], .dex),
      ([0xCB], .wai), ([0xCC, 0xCD, 0xAB], .cpyAbs 0xABCD), ([0xCD, 0xCD, 0xAB], .cmpAbs 0xABCD),
      ([0xCE, 0xCD, 0xAB], .decAbs 0xABCD), ([0xCF, 0x34, 0xFE], .bbs4 0x34 0xFE)] = true := by
  decide

/-- Row D of the opcode map (30_encoding.md R158). -/
theorem test_decode_map_rowD : decodesTo
    [([0xD0, 0xFE], .bne 0xFE), ([0xD1, 0x34], .cmpIndY 0x34), ([0xD2, 0x34], .cmpInd 0x34),
      ([0xD3, 0x01, 0x02, 0x03, 0x04, 0x05, 0x06], .tin 0x0201 0x0403 0x0605), ([0xD4], .csh),
      ([0xD5, 0x34], .cmpZpX 0x34), ([0xD6, 0x34], .decZpX 0x34), ([0xD7, 0x34], .smb5 0x34),
      ([0xD8], .cld), ([0xD9, 0xCD, 0xAB], .cmpAbsY 0xABCD), ([0xDA], .phx), ([0xDB], .stp),
      ([0xDC], .undefined 0xDC), ([0xDD, 0xCD, 0xAB], .cmpAbsX 0xABCD),
      ([0xDE, 0xCD, 0xAB], .decAbsX 0xABCD), ([0xDF, 0x34, 0xFE], .bbs5 0x34 0xFE)] = true := by
  decide

/-- Row E of the opcode map (30_encoding.md R158). -/
theorem test_decode_map_rowE : decodesTo
    [([0xE0, 0x56], .cpxImm 0x56), ([0xE1, 0x34], .sbcIndX 0x34), ([0xE2], .undefined 0xE2),
      ([0xE3, 0x01, 0x02, 0x03, 0x04, 0x05, 0x06], .tia 0x0201 0x0403 0x0605),
      ([0xE4, 0x34], .cpxZp 0x34), ([0xE5, 0x34], .sbcZp 0x34), ([0xE6, 0x34], .incZp 0x34),
      ([0xE7, 0x34], .smb6 0x34), ([0xE8], .inx), ([0xE9, 0x56], .sbcImm 0x56), ([0xEA], .nop),
      ([0xEB], .undefined 0xEB), ([0xEC, 0xCD, 0xAB], .cpxAbs 0xABCD),
      ([0xED, 0xCD, 0xAB], .sbcAbs 0xABCD), ([0xEE, 0xCD, 0xAB], .incAbs 0xABCD),
      ([0xEF, 0x34, 0xFE], .bbs6 0x34 0xFE)] = true := by
  decide

/-- Row F of the opcode map (30_encoding.md R158). -/
theorem test_decode_map_rowF : decodesTo
    [([0xF0, 0xFE], .beq 0xFE), ([0xF1, 0x34], .sbcIndY 0x34), ([0xF2, 0x34], .sbcInd 0x34),
      ([0xF3, 0x01, 0x02, 0x03, 0x04, 0x05, 0x06], .tai 0x0201 0x0403 0x0605), ([0xF4], .set),
      ([0xF5, 0x34], .sbcZpX 0x34), ([0xF6, 0x34], .incZpX 0x34), ([0xF7, 0x34], .smb7 0x34),
      ([0xF8], .sed), ([0xF9, 0xCD, 0xAB], .sbcAbsY 0xABCD), ([0xFA], .plx),
      ([0xFB], .undefined 0xFB), ([0xFC], .undefined 0xFC), ([0xFD, 0xCD, 0xAB], .sbcAbsX 0xABCD),
      ([0xFE, 0xCD, 0xAB], .incAbsX 0xABCD), ([0xFF, 0x34, 0xFE], .bbs7 0x34 0xFE)] = true := by
  decide


/-- Bytes that end early do not decode, by name. -/
theorem test_decode_stops_by_name :
    decode [] = .error .noOpcode ∧ decode [0x73, 0, 0, 0, 0, 0] = .error .missingOperand := by
  decide

/-- The host's numbering of a table word: byte 0 lowest, bits above nbits zero. -/
theorem test_decode_table_word :
    decodeTableWord 8 0xA9 = some (.ldaImm 0) ∧ decodeTableWord 16 0x0FA9 = some (.ldaImm 0x0F) ∧
      decodeTableWord 56 0x06050403020173 = some (.tii 0x0201 0x0403 0x0605) := by
  decide

/-- The word stands at the pc after reset, and the next step runs it. -/
theorem test_with_fetch_word :
    let t := stepped (State.reset.withFetchWord 16 0x0FA9)
    t.cpu.a = 0x0F ∧ t.cpu.pc = 0x0002 ∧ t.cycles = 2 := by
  decide

/-! ### Addressing (30_encoding.md) -/

/-- zp,X wraps in the page (R144). -/
theorem test_zpX_wraps : (ea (.zpX 0x20) ((base []).withAXY 0 0xF0 0)).1 = 0x2010 := by decide

/-- A pointer at $FF takes its high byte from $00 (R146, R77). -/
theorem test_ind_wraps_in_page :
    (ea (.ind 0xFF) (base [(0x00, 0x12), (0xFF, 0x34)])).1 = 0x1234 := by
  decide

/-- (zp),Y carries into the high byte (R148). -/
theorem test_indY_carries :
    (ea (.indY 0x10) ((base [(0x10, 0xFF), (0x11, 0x30)]).withAXY 0 0 1)).1 = 0x3100 := by
  decide

/-- (zp,X) (R147). -/
theorem test_indX :
    (ea (.indX 0x10) ((base [(0x13, 0x30)]).withAXY 0 2 0)).1 = 0x3000 := by
  decide

/-- abs,X wraps (R150). -/
theorem test_absX_wraps : (ea (.absX 0xFFFF) ((base []).withAXY 0 2 0)).1 = 0x0001 := by decide

/-- An instruction may straddle two slots (R71, R78). -/
theorem test_straddling_fetch :
    let s := base [(0x1FFF, 0xA9)]
    let t := stepped { s with
      rom := [(0, 0x42)], mpr := s.mpr.set 6 0xF8, cpu := { s.cpu with pc := 0xDFFF } }
    t.cpu.a = 0x42 ∧ t.cpu.pc = 0xE001 := by
  decide

/-! ### Loads, stores, transfers, stack (40_load_store.md) -/

/-- R161 -/
theorem test_lda_imm_80 : apc (run (.ldaImm 0x80) (base [])) = (0x80, 0x80, 2) := by decide

/-- R161 -/
theorem test_lda_indY :
    apc (run (.ldaIndY 0x20)
      ((base [(0x21, 0x30), (0x1005, 0x7F)]).withAXY 0 0 5)) = (0x7F, 0x00, 7) := by
  decide

/-- R162 -/
theorem test_ldx_zpY :
    let t := run (.ldxZpY 0x10) ((base []).withAXY 0 9 2)
    t.cpu.x = 0 ∧ t.cpu.p.z = true ∧ t.cycles = 4 := by
  decide

/-- R163 -/
theorem test_ldy_absX :
    let t := run (.ldyAbsX 0x3000) ((base [(0x1001, 0xFF)]).withAXY 0 1 0)
    t.cpu.y = 0xFF ∧ t.cpu.p.n = true ∧ t.cycles = 5 := by
  decide

/-- R164 -/
theorem test_sta_indX :
    let t := run (.staIndX 0x10) ((base [(0x15, 0x30)]).withAXY 0xAA 4 0)
    t.wram = [(0x15, 0x30), (0x1000, 0xAA)] ∧ t.cycles = 7 := by
  decide

/-- R164, R81 -/
theorem test_sta_to_rom_does_nothing :
    let t := run (.staAbs 0xE100) ((base []).withAXY 0x55 0 0)
    t.rom = [] ∧ t.wram = [] ∧ t.cycles = 5 := by
  decide

/-- R165 -/
theorem test_stx_zpY :
    (run (.stxZpY 0x33) ((base []).withAXY 0 0x12 1)).wram = [(0x34, 0x12)] := by
  decide

/-- R167 -/
theorem test_stz_absX :
    (run (.stzAbsX 0x3000) ((base [(0x1002, 0x99)]).withAXY 0 2 0)).wram = [] := by
  decide

/-- R174: Z stays. -/
theorem test_sax :
    let t := run .sax (((base []).withAXY 1 2 0).withP 0x02)
    t.cpu.a = 2 ∧ t.cpu.x = 1 ∧ t.cpu.p.z = true ∧ t.cycles = 3 := by
  decide

/-- R177: N and Z stay. -/
theorem test_cla :
    apc (run .cla (((base []).withAXY 0x55 0 0).withP 0x80)) = (0x00, 0x80, 2) := by
  decide

/-- R180: the stack wraps in its page. -/
theorem test_pha_wraps :
    let s := (base []).withAXY 0x12 0 0
    let t := run .pha { s with cpu := { s.cpu with sp := 0 } }
    t.wram = [(0x100, 0x12)] ∧ t.cpu.sp = 0xFF ∧ t.cycles = 3 := by
  decide

/-- R181: N V T D clear, I Z C set. -/
theorem test_php :
    (run .php ((base []).withP 0x07)).wram = [(0x1FF, 0x17)] := by
  decide

/-- R181, R308: PHP after SET. -/
theorem test_php_after_set :
    let t := run .php (run .set (base []))
    t.wram = [(0x1FF, 0x30)] ∧ t.cpu.p.t = false ∧ t.cpu.afterSet = false := by
  decide

/-- R184 -/
theorem test_pla :
    let s := base [(0x1FF, 0x80)]
    let t := run .pla { s with cpu := { s.cpu with sp := 0xFE } }
    apc t = (0x80, 0x80, 4) ∧ t.cpu.sp = 0xFF := by
  decide

/-- R185 -/
theorem test_plp :
    (run .plp (base [(0x100, 0xFF)])).cpu.p =
      { n := true, v := true, t := false, d := true, i := true, z := true, c := true } := by
  decide

/-! ### Arithmetic and logic (41_alu.md) -/

/-- Binary ADC (R206): A, operand and carry to A, NVZC. -/
theorem test_adc_binary :
    [(0xFF, 1, 0x00), (0x7F, 0, 0x01), (0x80, 0, 0x80), (0x50, 0, 0x50)].map
      (fun (e : Byte × Byte × Byte) =>
        apc (run (.adcImm e.2.2) (((base []).withAXY e.1 0 0).withP e.2.1))) =
      [(0x00, 0x03, 2), (0x80, 0xC0, 2), (0x00, 0x43, 2), (0xA0, 0xC0, 2)] := by
  decide

/-- Binary SBC (R207). -/
theorem test_sbc_binary :
    [(0x00, 1, 0x01), (0x80, 1, 0x01), (0x50, 1, 0xF0), (0x05, 0, 0x05)].map
      (fun (e : Byte × Byte × Byte) =>
        apc (run (.sbcImm e.2.2) (((base []).withAXY e.1 0 0).withP e.2.1))) =
      [(0xFF, 0x80, 2), (0x7F, 0x41, 2), (0x60, 0x00, 2), (0xFF, 0x80, 2)] := by
  decide

/-- A, C, N, Z and the cost: V is a free value in decimal mode. -/
def decimalAnswer (s : State) : Byte × Bool × Bool × Bool × Nat :=
  (s.cpu.a, s.cpu.p.c, s.cpu.p.n, s.cpu.p.z, s.cycles)

/-- Decimal ADC (R202, R206), the last two of invalid BCD. -/
theorem test_adc_decimal :
    [(0x99, 0x08, 0x01), (0x58, 0x09, 0x46), (0x19, 0x09, 0x09), (0x0A, 0x08, 0x00),
        (0xFF, 0x08, 0xFF)].map
      (fun (e : Byte × Byte × Byte) =>
        decimalAnswer (run (.adcImm e.2.2) (((base []).withAXY e.1 0 0).withP e.2.1))) =
      [(0x00, true, false, true, 3), (0x05, true, false, false, 3), (0x29, false, false, false, 3),
        (0x10, false, false, false, 3), (0x54, true, false, false, 3)] := by
  decide

/-- Decimal SBC (R202, R207). -/
theorem test_sbc_decimal :
    [(0x00, 0x09, 0x01), (0x30, 0x08, 0x20), (0x05, 0x08, 0x46), (0x00, 0x08, 0x00)].map
      (fun (e : Byte × Byte × Byte) =>
        decimalAnswer (run (.sbcImm e.2.2) (((base []).withAXY e.1 0 0).withP e.2.1))) =
      [(0x99, false, true, false, 3), (0x09, true, false, false, 3), (0x58, false, false, false, 3),
        (0x99, false, true, false, 3)] := by
  decide

/-- T-mode ORA (R204, R205). -/
theorem test_tmode_ora :
    let t := run (.oraZp 0x10)
      ((base [(0x10, 0xF0), (0x20, 0x0F)]).withAXY 0x55 0x20 0).afterSetInstr
    t.wram = [(0x10, 0xF0), (0x20, 0xFF)] ∧ apc t = (0x55, 0x80, 7) := by
  decide

/-- T-mode ADC where the operand is its own target (R205). -/
theorem test_tmode_same_address :
    (run (.adcZp 0x05) ((base [(0x05, 0x02)]).withAXY 0 5 0).afterSetInstr).wram = [(0x05, 0x04)] := by
  decide

/-- An absolute form is not in T_MODE_SET (R204). -/
theorem test_tmode_ignores_absolute :
    apc (run (.oraAbs 0x3000) ((base [(0x1000, 0x02)]).withAXY 1 0 0).afterSetInstr) =
      (0x03, 0x00, 5) := by
  decide

/-- R211 -/
theorem test_cmp_unsigned :
    apc (run (.cmpImm 0x7F) ((base []).withAXY 0x80 0 0)) = (0x80, 0x01, 2) := by
  decide

/-- R214 -/
theorem test_bit_imm :
    apc (run (.bitImm 0xC0) ((base []).withAXY 0x01 0 0)) = (0x01, 0xC2, 2) := by
  decide

/-- R215: the mask comes first. -/
theorem test_tst_abs :
    apc (run (.tstImmAbs 0x01 0x3000) (base [(0x1000, 0x41)])) = (0x00, 0x40, 8) := by
  decide

/-- R216 -/
theorem test_tsb_zp :
    let t := run (.tsbZp 0x10) ((base [(0x10, 0x01)]).withAXY 0x81 0 0)
    t.wram = [(0x10, 0x81)] ∧ apc t = (0x81, 0x00, 6) := by
  decide

/-- R217 -/
theorem test_trb_abs :
    let t := run (.trbAbs 0x3000) ((base [(0x1000, 0xFF)]).withAXY 0x0F 0 0)
    t.wram = [(0x1000, 0xF0)] ∧ t.cpu.p.z = false ∧ t.cycles = 7 := by
  decide

/-- R218: C stays. -/
theorem test_inc_a :
    apc (run .incA (((base []).withAXY 0xFF 0 0).withP 0x01)) = (0x00, 0x03, 2) := by
  decide

/-- R219 -/
theorem test_dec_absX :
    let t := run (.decAbsX 0x3000) ((base []).withAXY 0 1 0)
    t.wram = [(0x1001, 0xFF)] ∧ t.cpu.p.n = true ∧ t.cycles = 7 := by
  decide

/-- R224 -/
theorem test_asl_a : apc (run .aslA ((base []).withAXY 0x80 0 0)) = (0x00, 0x03, 2) := by decide

/-- R225 -/
theorem test_lsr_zp :
    let t := run (.lsrZp 0x10) (base [(0x10, 0x01)])
    t.wram = [] ∧ apc t = (0x00, 0x03, 6) := by
  decide

/-- R226 -/
theorem test_rol_a :
    apc (run .rolA (((base []).withAXY 0x40 0 0).withP 0x01)) = (0x81, 0x80, 2) := by
  decide

/-- R227 -/
theorem test_ror_abs :
    let t := run (.rorAbs 0x3000) ((base [(0x1000, 0x02)]).withP 0x01)
    t.wram = [(0x1000, 0x81)] ∧ apc t = (0x00, 0x80, 7) := by
  decide

/-- R228 -/
theorem test_rmb3 : (run (.rmb3 0x10) (base [(0x10, 0xFF)])).wram = [(0x10, 0xF7)] := by decide

/-- R229 -/
theorem test_smb0 : (run (.smb0 0xFF) (base [])).wram = [(0xFF, 0x01)] := by decide

/-! ### Control (42_control.md). PC is past the instruction when its meaning runs. -/

/-- The base state with PC past an instruction of n bytes at $E000. -/
def past (n : Nat) (s : State) : State :=
  { s with cpu := { s.cpu with pc := 0xE000 + BitVec.ofNat 16 n } }

/-- PC and the cost. -/
def pcCost (s : State) : Word × Nat := (s.cpu.pc, s.cycles)

/-- R262 -/
theorem test_bmi_backward :
    pcCost (run (.bmi 0x80) (past 2 ((base []).withP 0x80))) = (0xDF82, 4) := by
  decide

/-- R266 -/
theorem test_bcs_not_taken : pcCost (run (.bcs 0x04) (past 2 (base []))) = (0xE002, 2) := by decide

/-- R270 -/
theorem test_bbr0_taken :
    pcCost (run (.bbr0 0x10 0x05) (past 3 (base [(0x10, 0xFE)]))) = (0xE008, 8) := by
  decide

/-- R270: the page penalty. -/
theorem test_bbr0_page_cross :
    pcCost (run (.bbr0 0x10 0x20) (past 0xF3 (base [(0x10, 0xFE)]))) = (0xE113, 9) := by
  decide

/-- R271 -/
theorem test_bbs7_not_taken :
    pcCost (run (.bbs7 0x10 0xFD) (past 3 (base [(0x10, 0x7F)]))) = (0xE003, 6) := by
  decide

/-- R273: the pointer's high byte is read across the page. -/
theorem test_jmp_ind_across_page :
    pcCost (run (.jmpInd 0x30FF) (base [(0x1100, 0xE1)])) = (0xE100, 7) := by
  decide

/-- R274 -/
theorem test_jsr :
    let t := run (.jsr 0xE100) (past 3 (base []))
    t.wram = [(0x1FE, 0x02), (0x1FF, 0xE0)] ∧ t.cpu.sp = 0xFD ∧ pcCost t = (0xE100, 7) := by
  decide

/-- R275: the return address wraps. -/
theorem test_rts_wraps :
    let s := base [(0x1FE, 0xFF), (0x1FF, 0xFF)]
    pcCost (run .rts { s with cpu := { s.cpu with sp := 0xFD } }) = (0x0000, 7) := by
  decide

/-- R272 -/
theorem test_bsr :
    let t := run (.bsr 0x10) (past 2 (base []))
    t.wram = [(0x1FE, 0x01), (0x1FF, 0xE0)] ∧ pcCost t = (0xE012, 8) := by
  decide

/-- R276: T of the pulled byte does not stay. -/
theorem test_rti :
    let s := base [(0x1FD, 0x24), (0x1FF, 0xE1)]
    let t := run .rti { s with cpu := { s.cpu with sp := 0xFC } }
    t.cpu.p.toByte false = 0x04 ∧ t.cpu.sp = 0xFF ∧ pcCost t = (0xE100, 7) := by
  decide

/-- R277: B = 1 and D = 1 in the pushed byte. -/
theorem test_brk :
    let s := past 6 ((base []).withP 0x08)
    let t := run (.brk 0x00) { s with rom := [(0x1FF7, 0xE1)] }
    t.wram = [(0x1FD, 0x18), (0x1FE, 0x06), (0x1FF, 0xE0)] ∧ t.cpu.p.toByte false = 0x04 ∧
      pcCost t = (0xE100, 8) := by
  decide

/-! ### System (43_system.md) -/

/-- R320: only the lowest set bit's slot. -/
theorem test_tam_lowest_bit :
    (run (.tam 0x06) ((base []).withAXY 0xF9 0 0)).mpr = #v[0xFF, 0xF9, 0, 0, 0, 0, 0, 0] := by
  decide

/-- R321 -/
theorem test_tma : apc (run (.tma 0x06) (base [])) = (0xF8, 0x00, 4) := by decide

/-- R324: two stores make one VRAM word. -/
theorem test_st1_st2_write_vram :
    let s := base []
    let t := run (.st2 0x12) (run (.st1 0x34) { s with vdc := { s.vdc with ar := 2, mawr := 0x1000 } })
    t.vdc.vram = [(0x1000, 0x1234)] ∧ t.vdc.mawr = 0x1001 ∧ t.cycles = 5 := by
  decide

/-- R308, R403: no interrupt between SET and the next instruction; the NOP at $E000 runs. -/
theorem test_set_blocks_interrupt :
    let s := (run .set (base []))
    let t := stepped { s with rom := [(0, 0xEA)], irq := { mask := 0, req := 1 } }
    pcCost t = (0xE001, 2) := by
  decide

/-- R330, R331 -/
theorem test_wai_stp :
    (run .wai (base [])).cpu.runState = .waiting ∧ (run .stp (base [])).cpu.runState = .stopped := by
  decide

/-! ### Block transfers (44_block_transfer.md). The three stack bytes are free values, so here slot 1 is
unmapped and ignores them, and slot 2 is the work RAM. -/

/-- The base state with the work RAM in slot 2 and an unmapped stack. -/
def blockBase (ram : Memory) : State :=
  { base ram with mpr := #v[0xFF, 0x80, 0xF8, 0, 0, 0, 0, 0] }

/-- R340: an overlapping TII spreads its first byte. -/
theorem test_tii_overlap :
    let t := run (.tii 0x4000 0x4001 0x0004) (blockBase [(0, 0xAA)])
    t.wram = [(0, 0xAA), (1, 0xAA), (2, 0xAA), (3, 0xAA), (4, 0xAA)] ∧ t.cycles = 41 := by
  decide

/-- R342 -/
theorem test_tdd :
    (run (.tdd 0x5003 0x4003 0x0004)
      (blockBase [(0x1000, 0x11), (0x1001, 0x22), (0x1002, 0x33), (0x1003, 0x44)])).wram.take 4 =
      [(0, 0x11), (1, 0x22), (2, 0x33), (3, 0x44)] := by
  decide

/-- R343, R563: the palette entry's low byte is written three times. -/
theorem test_tin_to_vce :
    let t := run (.tin 0x5000 0x0404 0x0003) (blockBase [(0x1000, 1), (0x1001, 2), (0x1002, 3)])
    t.vce.palette = [(0, 3)] ∧ t.vce.cta = 0 ∧ t.cycles = 35 := by
  decide

/-- R344, R512 -/
theorem test_tia_to_vdc :
    let s := blockBase [(0x1000, 0x34), (0x1001, 0x12), (0x1002, 0x78), (0x1003, 0x56)]
    let t := run (.tia 0x5000 0x0002 0x0004)
      { s with vdc := { s.vdc with ar := 2, mawr := 0x1000 } }
    t.vdc.vram = [(0x1000, 0x1234), (0x1001, 0x5678)] ∧ t.vdc.mawr = 0x1002 := by
  decide

/-- R345 -/
theorem test_tai_odd :
    let t := run (.tai 0x5000 0x4000 0x0003) (blockBase [(0x1000, 0xAA), (0x1001, 0x55)])
    t.wram.take 3 = [(0, 0xAA), (1, 0x55), (2, 0xAA)] ∧ t.cycles = 35 := by
  decide

/-! ### Devices (20_memory.md, 60_exceptions.md, 61_video.md) -/

/-- R405: the Timer first of three requests, stacked B = 0. -/
theorem test_timer_entry :
    let s := base []
    let t := interruptEntry .timer
      { s with rom := [(0x1FFB, 0xE4)], irq := { mask := 0, req := 7 } }
    chosen { s with irq := { mask := 0, req := 7 } } = some .timer ∧ pcCost t = (0xE400, 8) ∧
      t.irq.req = 3 ∧ t.wram = [(0x1FF, 0xE0)] ∧ t.cpu.p.toByte false = 0x04 := by
  decide

/-- R413: any write to the status register clears the timer request alone. -/
theorem test_status_write_clears_timer :
    let s := base []
    (run (.staAbs 0x1403) { s with irq := { mask := 0, req := 7 } }).irq.req = 3 := by
  decide

/-- R91, R93: a VDC mirror. -/
theorem test_vdc_mirror : (memWrite 0x03FC 0x05 (base [])).vdc.ar = 5 := by decide

/-- R83: cartridge RAM by its size. -/
theorem test_cart_ram_mirror :
    let s := base []
    let u := memWrite 0x4800 0x11 { s with mpr := s.mpr.set 2 0xF7 }
    (memRead 0x4000 u).1 = 0x11 := by
  decide

/-- R79: the alias window over a mapping register. -/
theorem test_mpr_alias :
    let s := base []
    (memWrite 0x1C03 0xF8 { s with params := { testParams with mprAlias := some 0x1C00 } }).mpr[3] =
      0xF8 := by
  decide

/-- R429: reload 2 at high speed, 1024 and 2048 cycles. -/
theorem test_timer_period :
    let tm : Timer := { reload := 2, counter := 2, prescale := 0, enabled := true }
    (tm.advance (1024 * 3)).1.counter = 1 ∧ (tm.advance (2048 * 3)).1.counter = 2 ∧
      (tm.advance (2048 * 3)).2 = true := by
  decide

/-- R531: four words downwards. -/
theorem test_vram_dma_down :
    let v := { Vdc.reset with
      dcr := 0x000C, sour := 0x1003, desr := 0x2003, lenr := 3
      vram := [(0x1000, 0x100), (0x1001, 0x101), (0x1002, 0x102), (0x1003, 0x103)] }
    let r := v.vramDma testParams
    r.1.vram.drop 4 = [(0x2000, 0x100), (0x2001, 0x101), (0x2002, 0x102), (0x2003, 0x103)] ∧
      r.1.sour = 0x0FFF ∧ r.1.desr = 0x1FFF ∧ r.2 = false := by
  decide

/-- R535-R537: the last clock of line 259 starts vertical blank on line 260. -/
theorem test_vblank_line :
    let v := { Vdc.reset with vpr := 0x0F02, vdw := 239, cr := 0x0008, line := 259, clock := 1364 }
    let r := v.advance testParams [] 1
    v.activeStart = 20 ∧ v.activeEnd testParams = 260 ∧ r.1.line = 260 ∧ r.1.st = 0x20 ∧
      r.2 = true := by
  decide

/-- R563, R564: two palette writes and the high read. -/
theorem test_palette_write :
    let s := memWrite 0x0405 0x01 (memWrite 0x0404 0xFF (base []))
    s.vce.palette = [(0, 0x1FF)] ∧ s.vce.cta = 1 := by
  decide

/-- R607, R276: BOOT_STACK_PRIME leaves S at its start value and the bytes above it. -/
theorem test_boot_stack_prime :
    let s := base []
    let t := resetSequence (fun _ => 0)
      { s with
        params :=
          { testParams with
            bootStackPrime := some (0xFC, [0x04, 0x00, 0xE1])
            bootMap := some [0, 0xF8, 0, 0, 0, 0, 0] } }
    t.cpu.sp = 0xFC ∧ t.wram = [(0x1FD, 0x04), (0x1FF, 0xE1)] ∧
      (run .rti t).cpu.pc = 0xE100 := by
  decide

/-- R606: an image smaller than one bank is rejected. -/
theorem test_load_rejects_short_image :
    (match powerOn (fun _ => 0) testParams [0xEA] with
      | .error e => e == .zeroRomBanks
      | .ok _ => false) = true := by
  decide

/-! ### The hypotheses of the statements are met -/

theorem witness_DecodeInvertsEncode :
    (Instr.tii 0x3000 0x2000 0xFFFF).wf = true ∧ (Instr.undefined 0x0B).wf = true ∧
      (Instr.undefined 0xFC).wf = true := by
  decide

theorem witness_DecodeIsTotalAndFaithful :
    decode [0xA9, 0xFF, 0x00] = .ok (.ldaImm 0xFF, [0x00]) ∧
      decode [0xFC] = .ok (.undefined 0xFC, []) := by
  decide

/-- Running with nothing to take, and after SET with a request to take; the reset state's empty image is a
BRK. -/
theorem witness_StepRunsDecodedInstruction :
    State.reset.cpu.runState = .running ∧ chosen State.reset = none ∧
      decode (fetchBytes 2 { State.reset with psgWrites := [] }).1 = .ok (.brk 0x00, []) ∧
      (base []).afterSetInstr.cpu.afterSet = true ∧
      decode (fetchBytes 2 { (base []).afterSetInstr with psgWrites := [] }).1 =
        .ok (.brk 0x00, []) := by
  decide

/-- Two bytes over the wrap at $FFFF. -/
theorem witness_FetchReadsBytesAtPc :
    let s := State.reset.setPc 0xFFFF
    ∀ k < 2, (s.place (s.cpu.pc + BitVec.ofNat 16 k)).isStorage = true := by
  decide

theorem witness_StepKeepsMachineWellFormed :
    (base []).params.wf = true ∧ (base []).inv = true ∧ ∃ t, step (base []) = .next t :=
  ⟨by decide, by decide, _, rfl⟩

/-- A state about to take an interrupt, and one about to fetch. -/
theorem witness_RunningStepReturnsAtLeastTwo :
    (base []).cpu.runState = .running ∧
      ((base []).params.cyc = Params.default.cyc ∧ (base []).params.btBase = 17 ∧
        (base []).params.btPerByte = 6) ∧
      (∃ t, step (base []) = .next t) ∧ ∃ t, step (injectNmi (base [])) = .next t :=
  ⟨rfl, ⟨rfl, rfl, rfl⟩, ⟨_, rfl⟩, _, rfl⟩

theorem witness_UndefinedOpcodesAreNoOps :
    let s := { base [] with rom := [(0, 0xFC)] }
    s.cpu.runState = .running ∧ chosen s = none ∧ (s.place s.cpu.pc).isStorage = true ∧
      s.byteAt (s.place s.cpu.pc) ∈ undefinedOpcodes ∧ s.afterSetInstr.cpu.afterSet = true ∧
      s.afterSetInstr.byteAt (s.afterSetInstr.place s.cpu.pc) ∈ undefinedOpcodes := by
  decide

/-- Stopped with NMI pending, and Waiting with every request masked. -/
theorem witness_IdleStepKeepsCpu :
    (run .stp (injectNmi (base []))).cpu.runState = .stopped ∧
      (run .wai (base [])).cpu.runState = .waiting ∧
      chosen { run .wai (base []) with irq := { mask := 7, req := 7 } } = none := by
  decide

/-- The base state with every request pending and a mask. -/
def requested (mask : BitVec 3) (s : State) : State := { s with irq := { mask := mask, req := 7 } }

/-- Each of the four sources, Running or Waiting. -/
theorem witness_InterruptEntryStep :
    chosen (requested 0 (base [])) = some .timer ∧ chosen (requested 4 (base [])) = some .irq1 ∧
      chosen (requested 6 (base [])) = some .irq2 ∧
      chosen (injectNmi (requested 7 (base []))) = some .nmi ∧
      (requested 0 (base [])).cpu.runState = .running ∧
      (requested 0 (base [])).cpu.afterSet = false ∧
      chosen (requested 0 (run .wai (base []))) = some .timer ∧
      (requested 0 (run .wai (base []))).cpu.runState = .waiting ∧
      (requested 0 (run .wai (base []))).cpu.afterSet = false := by
  decide

theorem witness_ReturnsUndoEntriesAndCalls :
    (base []).slot1InRam = true ∧ (base []).wram.wf = true ∧
      (∃ u, exec (.brk 0) (base []) = .next u) ∧ (∃ u, exec (.jsr 0xFFFF) (base []) = .next u) ∧
      ∃ u, exec (.bsr 0x80) (base []) = .next u :=
  ⟨by decide, by decide, ⟨_, rfl⟩, ⟨_, rfl⟩, _, rfl⟩

/-- The three pointer forms, with X = $FF where X matters. -/
theorem witness_EffectiveAddresses :
    let s := (base []).withAXY 0 0xFF 0
    (Addr.ind 0xFF = .ind 0xFF ∧ (0xFF : Byte) = 0xFF) ∧
      (Addr.indX 0x01 = .indX 0x01 ∧ (0x00 : Byte) = 0x01 + s.cpu.x) ∧
      (Addr.indY 0xFF = .indY 0xFF ∧ (0xFF : Byte) = 0xFF) := by
  decide

theorem witness_ReadsChangeOnlyDevices :
    ((base []).place 0x2000).isStorage = true ∧ ((base []).place 0xFFFF).isStorage = true := by
  decide

theorem witness_LoadsTakeOperand :
    (Instr.ldaIndY 0xFF, Operand.mem (.indY 0xFF)) ∈ ldaForms 0 0xFF 0 ∧
      (Instr.ldxZpY 0xFF, Operand.mem (.zpY 0xFF)) ∈ ldxForms 0 0xFF 0 ∧
      (Instr.ldyAbsX 0xFFFF, Operand.mem (.absX 0xFFFF)) ∈ ldyForms 0 0 0xFFFF := by
  decide

theorem witness_StoresWriteOneByte :
    (Instr.staIndX 0xFF, Addr.indX 0xFF) ∈ staForms 0xFF 0 ∧
      (Instr.stxZpY 0xFF, Addr.zpY 0xFF) ∈ stxForms 0xFF 0 ∧
      (Instr.styAbs 0xFFFF, Addr.abs 0xFFFF) ∈ styForms 0 0xFFFF ∧
      (Instr.stzAbsX 0xFFFF, Addr.absX 0xFFFF) ∈ stzForms 0 0xFFFF := by
  decide

/-- PHP's byte with every flag set but T, and with none. -/
theorem witness_PushesWriteStackByte :
    let f (s : State) : Nat := 128 * s.cpu.p.n.toNat + 64 * s.cpu.p.v.toNat + 32 * s.cpu.p.t.toNat
      + 16 + 8 * s.cpu.p.d.toNat + 4 * s.cpu.p.i.toNat + 2 * s.cpu.p.z.toNat + s.cpu.p.c.toNat
    (0xDF : Byte).toNat = f ((base []).withP 0xFF) ∧ (0x10 : Byte).toNat = f ((base []).withP 0x00) ∧
      (0x30 : Byte).toNat = f ((base []).withP 0x00).afterSetInstr := by
  decide

/-- Both instructions, the immediate form with T set and a memory form with T clear. -/
theorem witness_BinaryAddAndSubtract :
    (Instr.adcImm 0xFF, Operand.imm 0xFF) ∈ adcForms 0xFF 0 0 ∧
      (Instr.sbcIndY 0xFF, Operand.mem (.indY 0xFF)) ∈ sbcForms 0 0xFF 0 ∧
      (base []).cpu.p.d = false ∧ tModeApplies (.imm 0xFF) (base []).afterSetInstr = false ∧
      tModeApplies (.mem (.indY 0xFF)) (base []) = false := by
  decide

/-- Valid BCD in A and in the operand with the carry set, an operand that is not BCD, both instructions; and
the ADC and the SBC of the last clause. -/
theorem witness_DecimalAddAndSubtract :
    let s := ((base []).withAXY 0x99 0 0).withP 0x09
    let t := run (.adcImm 0x01) s
    (Instr.adcImm 0xFF, Operand.imm 0xFF) ∈ adcForms 0xFF 0 0 ∧
      (Instr.sbcImm 0x99, Operand.imm 0x99) ∈ sbcForms 0x99 0 0 ∧ s.cpu.p.d = true ∧
      tModeApplies (.imm 0xFF) s = false ∧ tModeApplies (.imm 0x99) s = false ∧
      isBcd s.cpu.a = true ∧ isBcd (readOperand (.imm 0x99) s).1 = true ∧
      isBcd (readOperand (.imm 0xFF) s).1 = false ∧ s.params.bcdInvalid = .algorithm ∧
      isBcd 0x01 = true ∧ exec (.adcImm 0x01) s = .next t ∧
      ∃ u, exec (.sbcImm 0x01)
        { t with cpu := { t.cpu with p := { t.cpu.p with c := !s.cpu.p.c } } } = .next u :=
  ⟨by decide, by decide, rfl, rfl, rfl, rfl, rfl, rfl, rfl, rfl, rfl, _, rfl⟩

theorem witness_LogicIntoAccumulator :
    (Instr.andZp 0xFF, Operand.mem (.zp 0xFF)) ∈ andForms 0 0xFF 0 ∧
      (Instr.oraAbsY 0xFFFF, Operand.mem (.absY 0xFFFF)) ∈ oraForms 0 0 0xFFFF ∧
      (Instr.eorImm 0xFF, Operand.imm 0xFF) ∈ eorForms 0xFF 0 0 ∧
      tModeApplies (.mem (.zp 0xFF)) (base []) = false ∧
      tModeApplies (.mem (.absY 0xFFFF)) (base []).afterSetInstr = false ∧
      tModeApplies (.imm 0xFF) (base []).afterSetInstr = false := by
  decide

theorem witness_TModeActsOnMemory :
    (Instr.sbcZpX 0xFF, Operand.mem (.zpX 0xFF)) ∈ AluOp.sbc.forms 0 0xFF 0 ∧
      (Instr.eorZp 0xFF, Operand.mem (.zp 0xFF)) ∈ AluOp.eor.forms 0 0xFF 0 ∧
      (base []).afterSetInstr.cpu.p.t = true ∧
      (Addr.zpX 0xFF).mode ∈ (base []).afterSetInstr.params.tModeSet ∧
      (Addr.zp 0xFF).mode ∈ (base []).afterSetInstr.params.tModeSet := by
  decide

theorem witness_ComparesSetFlags :
    (Instr.cmpInd 0xFF, Operand.mem (.ind 0xFF)) ∈ cmpForms 0 0xFF 0 ∧
      (Instr.cpxImm 0xFF, Operand.imm 0xFF) ∈ cpxForms 0xFF 0 0 ∧
      (Instr.cpyAbs 0xFFFF, Operand.mem (.abs 0xFFFF)) ∈ cpyForms 0 0 0xFFFF := by
  decide

theorem witness_BitTestsSetFlags :
    (Instr.bitImm 0xFF, Operand.imm 0xFF) ∈ bitForms 0xFF 0 0 ∧
      (Instr.tstImmAbsX 0xFF 0xFFFF, Addr.absX 0xFFFF) ∈ tstForms 0xFF 0 0xFFFF := by
  decide

theorem witness_TestAndSetOrReset :
    (Instr.tsbZp 0xFF, Addr.zp 0xFF) ∈
        [(Instr.tsbZp 0xFF, Addr.zp 0xFF), (.tsbAbs 0xFFFF, .abs 0xFFFF)] ∧
      (Instr.trbAbs 0xFFFF, Addr.abs 0xFFFF) ∈
        [(Instr.trbZp 0xFF, Addr.zp 0xFF), (.trbAbs 0xFFFF, .abs 0xFFFF)] := by
  decide

theorem witness_CountsShiftsAndRotates :
    ∀ op ∈ [RmwOp.inc, .dec, .asl, .lsr, .rol, .ror], (op.forms 0xFF 0xFFFF).length = 4 := by
  decide

theorem witness_ZeroPageBitWrites :
    (Instr.rmb0 0xFF, 0, false) ∈ zpBitForms 0xFF ∧ (Instr.smb7 0xFF, 7, true) ∈ zpBitForms 0xFF := by
  decide

/-- Taken and not taken. -/
theorem witness_ConditionalBranches :
    (Instr.bpl 0x80, true) ∈ branchForms 0x80 (base []).cpu.p ∧
      (Instr.beq 0x7F, false) ∈ branchForms 0x7F (base []).cpu.p := by
  decide

theorem witness_BitTestBranches :
    (Instr.bbr0 0xFF 0x80, 0, false) ∈ bitBranchForms 0xFF 0x80 ∧
      (Instr.bbs7 0xFF 0x7F, 7, true) ∈ bitBranchForms 0xFF 0x7F := by
  decide

theorem witness_JumpTargets :
    let s := (base []).withAXY 0 0xFF 0
    (0xFFFF : Word) = 0xFFFF ∧ (0x00FE : Word) = 0xFFFF + s.cpu.x.zeroExtend 16 := by
  decide

theorem witness_CallsPushReturnAddress :
    let s := past 3 (base [])
    (Instr.jsr 0xFFFF = .jsr 0xFFFF ∧ s.params.cyc.jsr = 7) ∧
      (Instr.bsr 0x80 = .bsr 0x80 ∧ (0xDF83 : Word) = s.cpu.pc + BitVec.ofInt 16 (0x80 : Byte).toInt ∧
        s.params.cyc.bsr = 8) := by
  decide

/-- The lowest set bit at both ends, with higher bits set, and no bit set. -/
theorem witness_MappingRegisterTransfers :
    ((0xFF : Byte).getLsbD (0 : Fin 8) = true ∧ ∀ j < (0 : Fin 8), (0xFF : Byte).getLsbD j = false) ∧
      ((0x80 : Byte).getLsbD (7 : Fin 8) = true ∧
        ∀ j < (7 : Fin 8), (0x80 : Byte).getLsbD j = false) ∧ (0x00 : Byte) = 0 := by
  decide

theorem witness_BlockTransfersIterate :
    let e := (base []).params.e3Variant
    (blockForms e 0xFFFF 0x0000 0).map (fun f => f.1) =
        [.tii 0xFFFF 0 0, .tdd 0xFFFF 0 0, .tin 0xFFFF 0 0, .tia 0xFFFF 0 0, .tai 0xFFFF 0 0] ∧
      (blockForms .fixInc 0 0 0xFFFF).map (fun f => f.1) =
        [.tii 0 0 0xFFFF, .tdd 0 0 0xFFFF, .tin 0 0 0xFFFF, .tia 0 0 0xFFFF, .tai 0 0 0xFFFF] := by
  decide

/-- A place outside the destination and the three stack bytes. -/
theorem witness_BlockTransferFrame :
    let s := base []
    (blockForms s.params.e3Variant 0xE000 0x2000 2).length = 5 ∧ s.params.mprAlias = none ∧
      (∃ t, exec (.tii 0xE000 0x2000 2) s = .next t) ∧
      (∀ k < 2, s.place (0x2000 + BitVec.ofNat 16 k) ≠ .wram 2) ∧
      ∀ j < 3, s.place (stackAddr (s.cpu.sp - BitVec.ofNat 8 j)) ≠ .wram 2 :=
  ⟨rfl, rfl, ⟨_, rfl⟩, by decide, by decide⟩

/-- Two bytes from ROM to the end of work RAM. -/
theorem witness_BlockTransferCopies :
    let s := base []
    let w (k : Nat) := 0x1FFE + k
    s.memOk = true ∧ s.params.mprAlias = none ∧
      (∃ t, exec (.tii 0xE000 0x3FFE 2) s = .next t) ∧
      (∀ k < 2, (s.place (0xE000 + BitVec.ofNat 16 k)).isStorage = true) ∧
      (∀ k < 2, s.place (0x3FFE + BitVec.ofNat 16 k) = .wram (w k)) ∧
      (∀ j < 2, ∀ k < 2, w j = w k → j = k) ∧
      (∀ j < 2, ∀ k < 2, s.place (0xE000 + BitVec.ofNat 16 j) ≠ .wram (w k)) ∧
      ∀ k < 2, ∀ j < 3, s.place (stackAddr (s.cpu.sp - BitVec.ofNat 8 j)) ≠ .wram (w k) :=
  ⟨by decide, rfl, ⟨_, rfl⟩, by decide, by decide, by decide, by decide, by decide⟩

/-- The alias window's first and last byte, at the end of the hardware page. -/
theorem witness_TranslationUsesSlotsNow :
    let s := { base [] with params := { testParams with mprAlias := some 0x1FF8 } }
    s.place 0x1FF8 = .port (.mprAlias 0) ∧ s.place 0x1FFF = .port (.mprAlias 7) ∧
      s.place 0x1FF7 = .store 0x1FF7 ∧ ∃ t, exec (.tam (1#8 <<< (7 : Fin 8).val)) s = .next t :=
  ⟨by decide, by decide, by decide, _, rfl⟩

/-- The default WRAM_PAGES, and each page range at its ends; each range of the hardware page at its ends
(R90-R99); an alias window over device ports, and the bytes beside it. -/
theorem witness_PhysicalMap :
    let s := base []
    let at0 (page : Byte) (off : Word) := ({ s with mpr := s.mpr.set 0 page }).place off
    (s.params.wramPages = [0xF8, 0xF9, 0xFA, 0xFB] ∧ at0 0x00 0x1FFF = .rom 0x1FFF ∧
      at0 0x7F 0x0000 = .rom 0 ∧ at0 0x80 0x0000 = .unmapped ∧ at0 0xF6 0x0000 = .unmapped ∧
      at0 0xF7 0x1FFF = .cart 0x07FF ∧ at0 0xF8 0x1FFF = .wram 0x1FFF ∧ at0 0xFB 0x0000 = .wram 0 ∧
      at0 0xFC 0x0000 = .unmapped ∧ at0 0xFE 0x0000 = .unmapped ∧
      at0 0xFF 0x0000 = .port .vdcStatus) ∧
    (testParams.mprAlias = none ∧
      [0x0000, 0x03FF, 0x0400, 0x07FC, 0x0800, 0x0BFF, 0x0C00, 0x0FFF, 0x1000, 0x13FF, 0x1400, 0x17FF,
          0x1800, 0x1FFF].map (hwDecode testParams) =
        [.port .vdcStatus, .port .vdcHigh, .port .vceControl, .port .vceDataLow, .port (.psg 0),
          .port (.psg 15), .port .timerReload, .port .timerControl, .port .joypad, .port .joypad,
          .store 0x1400, .port .irqStatus, .store 0x1800, .store 0x1FFF] ∧
      [0x0003, 0x0004].map (hwDecode { testParams with vdcSpan := 4 }) =
        [.port .vdcHigh, .store 0x0004]) ∧
    [0x0401, 0x0402, 0x0409, 0x040A].map (hwDecode { testParams with mprAlias := some 0x0402 }) =
      [.store 0x0401, .port (.mprAlias 0), .port (.mprAlias 7), .port .vceAddrLow] := by
  decide

/-- A ROM place, an unmapped one, and the three writable memories. -/
theorem witness_ReadAfterWrite :
    let s := { base [] with mpr := #v[0xFF, 0xF8, 0xF7, 0x80, 0, 0, 0, 0] }
    s.memOk = true ∧ s.place 0xFFFF = .rom 0x1FFF ∧ s.place 0x6000 = .unmapped ∧
      s.place 0x3FFF = .wram 0x1FFF ∧ s.place 0x4800 = .cart 0 ∧ s.place 0x1FFF = .store 0x1FFF ∧
      (s.place 0x4000).isStorage = true := by
  decide

/-- One tick below, at and above the underflow, with counter 0 and reload 0 standing for 128; the timer off and
on, both time units of the VDC. -/
theorem witness_DeviceAdvance :
    let k (c : BitVec 7) : Nat := if c = 0 then 128 else c.toNat
    let n (pre c : Nat) (sp : Speed) := (pre + c * (if sp = .high then 3 else 12)) / 3072
    n 3069 1 .high = 1 ∧ k 1 = 1 ∧ n 0 255 .low < k 1 ∧ k 1 ≤ n 0 512 .low ∧
      n 0 131072 .high = k 0 ∧ k 0 + k 0 < n 0 65793 .low ∧
      State.reset.timer.enabled = false ∧ ((base []).timer.writeControl 1).enabled = true ∧
      testParams.vdcTimeUnit = .master ∧
      ({ testParams with vdcTimeUnit := .rawCycles }).vdcTimeUnit = .rawCycles := by
  decide

/-- $02, the first and the last defined register, the four with an effect, and undefined numbers at the ends
of their ranges. -/
theorem witness_VdcDataWrites :
    let v (n : BitVec 5) : Vdc := { Vdc.reset with ar := n }
    (v 0x02).ar = 0x02 ∧ (v 0x00).ar.toNat = VdcReg.mawr.number ∧
      (v 0x01).ar.toNat = VdcReg.marr.number ∧ (v 0x08).ar.toNat = VdcReg.byr.number ∧
      (v 0x12).ar.toNat = VdcReg.lenr.number ∧ (v 0x13).ar.toNat = VdcReg.dvssr.number ∧
      ∀ n ∈ [0x03#5, 0x04#5, 0x14#5, 0x1F#5],
        (v n).ar ≠ 0x02 ∧ ∀ r : VdcReg, (v n).ar.toNat ≠ r.number :=
  ⟨rfl, rfl, rfl, rfl, rfl, rfl, by
    intro n h
    simp only [List.mem_cons, List.not_mem_nil, or_false] at h
    rcases h with rfl | rfl | rfl | rfl <;> exact ⟨by decide, fun r => by cases r <;> decide⟩⟩

/-- $02 at each of the four increments, a defined register, an undefined number; the last VRAM word and the
one past it. -/
theorem witness_VdcDataReads :
    let v (n : BitVec 5) (cr : Word) : Vdc := { Vdc.reset with ar := n, cr := cr }
    (v 0x02 0x1800).ar = 0x02 ∧
      [0x0000, 0x0800, 0x1000, 0x1800].map (fun w : Word => w.toNat / 2048 % 4) = [0, 1, 2, 3] ∧
      (v 0x13 0).ar.toNat = VdcReg.dvssr.number ∧
      ((v 0x1F 0).ar ≠ 0x02 ∧ ∀ r : VdcReg, (v 0x1F 0).ar.toNat ≠ r.number) ∧
      Store.wf 0 (v 0x02 0).vram = true ∧ (0x7FFF : Word).toNat < testParams.vramWords ∧
      testParams.vramWords ≤ (0x8000 : Word).toNat :=
  ⟨rfl, by decide, rfl, ⟨by decide, fun r => by cases r <;> decide⟩, rfl, by decide, by decide⟩

/-- Two adjacent ranges that end at the end of VRAM; the SAT DMA idle, armed, and repeating. -/
theorem witness_DmaCopies :
    let v := { Vdc.reset with sour := 0x7FFC, desr := 0x7FFE, lenr := 1 }
    let n := v.lenr.toNat + 1
    (Store.wf 0 v.vram = true ∧ v.dcr.getLsbD 2 = false ∧ v.dcr.getLsbD 3 = false ∧
      v.sour.toNat + n ≤ testParams.vramWords ∧ v.desr.toNat + n ≤ testParams.vramWords ∧
      v.sour.toNat + n ≤ 65536 ∧ v.desr.toNat + n ≤ 65536 ∧
      (v.sour.toNat + n ≤ v.desr.toNat ∨ v.desr.toNat + n ≤ v.sour.toNat)) ∧
    (Vdc.reset.satPending = false ∧ Vdc.reset.dcr.getLsbD 4 = false) ∧
      ({ Vdc.reset with satPending := true }).satPending = true ∧
      ({ Vdc.reset with dcr := 0x0010 }).dcr.getLsbD 4 = true ∧
      Store.wf 0 Vdc.reset.sat = true := by
  decide

theorem witness_VdcStatusEvents :
    (VdcEvent.vblank, 5, true) ∈
        [(VdcEvent.collision, 0, true), (.overflow, 1, true), (.raster, 2, true), (.satDma, 3, true),
          (.vramDma, 4, true), (.vblank, 5, ({ Vdc.reset with cr := 0x0008 }).cr.getLsbD 3)] ∧
      (VdcEvent.collision, 0, false) ∈ [(VdcEvent.collision, 0, Vdc.reset.cr.getLsbD 0)] := by
  decide

/-- The last clock of a line and the one after it; the lines on both sides of the active ones. -/
theorem witness_VdcAdvanceByLines :
    let v := { Vdc.reset with vpr := 0x0F02, vdw := 239 }
    let start := v.vpr.toNat % 32 + v.vpr.toNat / 256 + 3
    let stop := min (start + v.vdw.toNat % 512 + 1) testParams.linesPerFrame
    ({ Vdc.reset with clock := 1363 }).clock + 1 < 1365 ∧
      1365 ≤ ({ Vdc.reset with clock := 1364 }).clock + 1 ∧
      ¬ (start ≤ 19 ∧ 19 < stop) ∧ (start ≤ 20 ∧ 20 < stop) ∧ (start ≤ 259 ∧ 259 < stop) ∧
      ¬ (start ≤ 260 ∧ 260 < stop) := by
  decide

theorem witness_PaletteLatch :
    let s := { base [] with vce := { cr := 0, cta := 0x1FF, palette := [(0, 1), (0x1FF, 0x1FF)] } }
    Store.wf 0 s.vce.palette = true := by
  decide

/-- A sprite at the top left corner of the screen covers row 0 and column 0, not row 16. -/
theorem witness_PixelFormats :
    let e := ({ Vdc.reset with sat := [(0, 64), (1, 32)] }).sprite 0
    (e.y ≤ 0 + 64 ∧ 0 + 64 < e.y + e.height) ∧ (e.x ≤ 0 + 32 ∧ 0 + 32 < e.x + e.width) ∧
      15 + 64 < e.y + e.height ∧ ¬ 16 + 64 < e.y + e.height := by
  decide

/-- The first and the last active line. -/
theorem witness_ActiveLineRenders :
    let v := { Vdc.reset with vpr := 0x0F02, vdw := 239 }
    let start := v.vpr.toNat % 32 + v.vpr.toNat / 256 + 3
    let stop := min (start + v.vdw.toNat % 512 + 1) testParams.linesPerFrame
    (start ≤ 20 ∧ 20 < stop) ∧ (start ≤ 259 ∧ 259 < stop) ∧ Store.wf default v.snap = true ∧
      Store.wf [] v.frame = true := by
  decide

/-- An image one byte short of a bank, and one of a whole bank. -/
theorem witness_ResetKeepsCartridge :
    (List.replicate 8191 (0 : Byte)).length / 8192 = 0 ∧
      ∃ t, powerOn (fun _ => 0) testParams (List.replicate 8192 0) = .ok t := by
  refine ⟨by simp only [List.length_replicate, Nat.reduceDiv], _, if_neg ?_⟩
  simp only [List.length_replicate]
  decide

/-- The first and the last ROM page as BOOT_BANK; no primed stack, and one of three bytes below a slot 1 that
BOOT_MAP maps to work RAM. -/
theorem witness_HostResetSequence :
    let p := { testParams with
      bootMap := some [0xFF, 0xF8], bootStackPrime := some (0xFD, [0x04, 0x00, 0xE0]) }
    (base []).params.bootStackPrime = none ∧ (base []).params.bootBank.toNat < 128 ∧
      ({ testParams with bootBank := 0x7F }).bootBank.toNat < 128 ∧
      (p.bootMap = some [0xFF, 0xF8] ∧ [(0xFF : Byte), 0xF8][1]? = some 0xF8 ∧
        (0xF8 ∈ p.wramPages ∧ 0x80 ≤ (0xF8 : Byte).toNat ∧ (0xF8 : Byte) ≠ 0xFF)) ∧
      ({ base [] with params := p }).memOk = true ∧
      ∀ j < 3, ∀ k < 3, j ≠ k →
        stackAddr (0xFD + 1 + BitVec.ofNat 8 j) ≠ stackAddr (0xFD + 1 + BitVec.ofNat 8 k) := by
  decide

end Sys2Proof.Tests
end

section
/-! PROOFS. Effective addresses and operand reads (30_encoding.md R142-R151). -/

namespace Sys2Proof.Machine

/-- A zero-page pointer read as two byte reads: the second address wraps inside the zero page
(20_memory.md R77). -/
theorem zpRead16_eq (z : Byte) (s : State) :
    let lo := memRead (0x2000 + z.zeroExtend 16) s
    let hi := memRead (0x2000 + (z + 1).zeroExtend 16) lo.2
    zpRead16 z s = (hi.1 ++ lo.1, hi.2) := by
  simp only [zpRead16, zpRead, zpAddr_eq, joinBytes]

theorem ea_ind (zz : Byte) (s : State) : ea (.ind zz) s = zpRead16 zz s := rfl

theorem ea_indX (zz : Byte) (s : State) : ea (.indX zz) s = zpRead16 (zz + s.cpu.x) s := rfl

/-- The pointer reads leave Y alone, so the Y added is the one before them (30_encoding.md R148). -/
theorem ea_indY (zz : Byte) (s : State) :
    ea (.indY zz) s =
      ((zpRead16 zz s).1 + s.cpu.y.zeroExtend 16, (zpRead16 zz s).2) := by
  have hcpu : (zpRead16 zz s).2.cpu = s.cpu := ea_cpu s (.ind zz)
  simp only [ea, hcpu]

/-- The three pointer forms as two byte reads: only `(zz),Y` adds an index after them. -/
theorem ea_pointer (zz : Byte) (s : State) (m : Addr) (z : Byte)
    (h : m = .ind zz ∧ z = zz ∨ m = .indX zz ∧ z = zz + s.cpu.x ∨ m = .indY zz ∧ z = zz) :
    let lo := memRead (0x2000 + z.zeroExtend 16) s
    let hi := memRead (0x2000 + (z + 1).zeroExtend 16) lo.2
    ea m s = (hi.1 ++ lo.1 + (if m = .indY zz then s.cpu.y.zeroExtend 16 else 0), hi.2) := by
  obtain ⟨rfl, rfl⟩ | ⟨rfl, rfl⟩ | ⟨rfl, rfl⟩ := h
  · simp [ea_ind, zpRead16_eq]
  · simp [ea_indX, zpRead16_eq]
  · simp [ea_indY, zpRead16_eq]

/-- Settles O15: the zero-page forms by the sum form of a zero-page address, the pointer forms by their
two byte reads, and the others by the definition of the form. -/
theorem effectiveAddresses : Obligations.EffectiveAddresses := by
  intro zz hhll s
  have zpForm (z : Byte) : (zpAddr z, s) = (0x2000 + z.zeroExtend 16, s) := by rw [zpAddr_eq]
  exact ⟨zpForm zz, zpForm (zz + s.cpu.x), zpForm (zz + s.cpu.y), rfl, rfl, rfl,
    ea_pointer zz s, rfl, fun _ => rfl⟩

end Sys2Proof.Machine
end

section
/-! PROOFS. What the VDC's actions keep: the position in the frame and the storage (61_video.md R505,
R535). -/

namespace Sys2Proof.Machine

variable {p : Params} {u v w : Vdc}

/-- An action that leaves the VDC at its place in the frame and its storage canonical and inside its
sizes. -/
structure Vdc.Keeps (p : Params) (v w : Vdc) : Prop where
  clock : w.clock = v.clock
  line : w.line = v.line
  memOk : v.memOk p = true → w.memOk p = true

theorem Vdc.Keeps.refl (p : Params) (v : Vdc) : v.Keeps p v := ⟨rfl, rfl, id⟩

theorem Vdc.Keeps.trans (h : u.Keeps p v) (k : v.Keeps p w) : u.Keeps p w :=
  ⟨k.clock.trans h.clock, k.line.trans h.line, k.memOk ∘ h.memOk⟩

theorem Vdc.Keeps.andThen {r : Vdc × Bool} {f : Vdc → Vdc × Bool} (h : v.Keeps p r.1)
    (k : ∀ w : Vdc, w.Keeps p (f w).1) : v.Keeps p (vdcThen r f).1 := h.trans (k r.1)

/-! ### Events and DMA -/

theorem Vdc.keeps_raise (v : Vdc) (e : VdcEvent) : v.Keeps p (v.raise e).1 := by
  unfold Vdc.raise
  split
  · exact ⟨rfl, rfl, id⟩
  · exact .refl p v

theorem Vdc.keeps_raiseIf (v : Vdc) (b : Bool) (e : VdcEvent) : v.Keeps p (v.raiseIf b e).1 := by
  unfold Vdc.raiseIf
  split
  · exact v.keeps_raise e
  · exact .refl p v

theorem Vdc.keeps_vramWrite (v : Vdc) (a x : Word) : v.Keeps p (v.vramWrite p a x) := by
  have hm : v.memOk p = true → (v.vramWrite p a x).memOk p = true := (Vdc.memOk_vramWrite · a x)
  unfold Vdc.vramWrite at hm ⊢
  split
  · rename_i ha
    rw [if_pos ha] at hm
    exact ⟨rfl, rfl, hm⟩
  · exact .refl p v

theorem Vdc.keeps_dmaCopy (sd dd : Bool) (n : Nat) (a b : Word) (v : Vdc) :
    v.Keeps p (Vdc.dmaCopy p sd dd n a b v).1 := by
  induction n generalizing a b v with
  | zero => exact .refl p v
  | succ n ih => exact (v.keeps_vramWrite _ _).trans (ih _ _ _)

theorem Vdc.keeps_vramDma (v : Vdc) : v.Keeps p (v.vramDma p).1 := by
  have hc := v.keeps_dmaCopy (p := p) (v.dcr.getLsbD 2) (v.dcr.getLsbD 3) (v.lenr.toNat + 1) v.sour
    v.desr
  unfold Vdc.vramDma
  dsimp only
  generalize Vdc.dmaCopy p _ _ _ _ _ v = r at hc ⊢
  refine Vdc.Keeps.trans ?_ (Vdc.keeps_raise _ .vramDma)
  exact ⟨hc.clock, hc.line, hc.memOk⟩

theorem Vdc.keeps_satDma (v : Vdc) : v.Keeps p (v.satDma p).1 := by
  have hm : v.memOk p = true → (v.satDma p).1.memOk p = true := Vdc.memOk_satDma
  refine ⟨?_, ?_, hm⟩ <;> unfold Vdc.satDma <;> split
  · exact (Vdc.keeps_raise (p := p) _ _).clock
  · rfl
  · exact (Vdc.keeps_raise (p := p) _ _).line
  · rfl

/-! ### Port writes -/

theorem Vdc.keeps_setReg (v : Vdc) (r : VdcReg) (x : Word) : v.Keeps p (v.setReg r x) := by
  cases r <;> exact ⟨rfl, rfl, id⟩

theorem Vdc.keeps_eitherEffect (v : Vdc) (r : VdcReg) : v.Keeps p (v.eitherEffect r) := by
  cases r <;> exact ⟨rfl, rfl, id⟩

theorem Vdc.keeps_highEffect (v : Vdc) (r : VdcReg) : v.Keeps p (v.highEffect p r).1 := by
  cases r with
  | lenr => exact v.keeps_vramDma
  | _ => exact ⟨rfl, rfl, id⟩

theorem Vdc.keeps_writeLow (v : Vdc) (b : Byte) : v.Keeps p (v.writeLow b) := by
  unfold Vdc.writeLow
  split
  · exact ⟨rfl, rfl, id⟩
  · split
    · exact (v.keeps_setReg _ _).trans (Vdc.keeps_eitherEffect _ _)
    · exact .refl p v

theorem Vdc.keeps_writeHigh (v : Vdc) (b : Byte) : v.Keeps p (v.writeHigh p b).1 := by
  unfold Vdc.writeHigh
  split
  · exact (v.keeps_vramWrite _ _).trans ⟨rfl, rfl, id⟩
  · split
    · exact (v.keeps_setReg _ _).trans (Vdc.keeps_highEffect _ _)
    · exact .refl p v

/-! ### The lines -/

theorem Vdc.keeps_stepBgY (v : Vdc) (l : Nat) : v.Keeps p (v.stepBgY p l) := by
  unfold Vdc.stepBgY
  split
  · exact ⟨rfl, rfl, id⟩
  · split
    · exact ⟨rfl, rfl, id⟩
    · exact .refl p v

theorem Vdc.keeps_verticalBlank (v : Vdc) (l : Nat) : v.Keeps p (v.verticalBlank p l).1 := by
  unfold Vdc.verticalBlank
  split
  · exact (v.keeps_raise _).andThen Vdc.keeps_satDma
  · exact .refl p v

/-- The frame becomes the last one, still canonical. -/
theorem Vdc.keeps_lastFrame (v : Vdc) : v.Keeps p { v with lastFrame := v.frame } := by
  refine ⟨rfl, rfl, fun h => ?_⟩
  rw [Vdc.memOk_iff] at h ⊢
  obtain ⟨hvram, hvramSize, hsat, hsatSize, hsnap, hframe, -⟩ := h
  exact ⟨hvram, hvramSize, hsat, hsatSize, hsnap, hframe, hframe⟩

theorem Vdc.keeps_startOfLine (v : Vdc) (l : Nat) : v.Keeps p (v.startOfLine p l).1 := by
  have hv : v.Keeps p (if l = 0 then { v with lastFrame := v.frame } else v) := by
    split
    · exact v.keeps_lastFrame
    · exact .refl p v
  exact ((hv.trans (Vdc.keeps_stepBgY _ l)).trans (Vdc.keeps_raiseIf _ _ _)).andThen
    (Vdc.keeps_verticalBlank · l)

theorem Vdc.keeps_setSnap (v : Vdc) (l : Nat) (r : Snapshot) :
    v.Keeps p { v with snap := Store.set default v.snap l r } := by
  refine ⟨rfl, rfl, fun h => ?_⟩
  rw [Vdc.memOk_iff] at h ⊢
  obtain ⟨hvram, hvramSize, hsat, hsatSize, hsnap, hframes⟩ := h
  exact ⟨hvram, hvramSize, hsat, hsatSize, Store.wf_set r l hsnap, hframes⟩

theorem Vdc.keeps_setRow (v : Vdc) (y : Nat) (r : Row) :
    v.Keeps p { v with frame := Store.set [] v.frame y r } := by
  refine ⟨rfl, rfl, fun h => ?_⟩
  rw [Vdc.memOk_iff] at h ⊢
  obtain ⟨hvram, hvramSize, hsat, hsatSize, hsnap, hframe, hlast⟩ := h
  exact ⟨hvram, hvramSize, hsat, hsatSize, hsnap, Store.wf_set r y hframe, hlast⟩

theorem Vdc.keeps_renderLine (pal : Store (BitVec 9)) (l : Nat) (v : Vdc) :
    v.Keeps p (v.renderLine p pal l).1 :=
  ((v.keeps_raiseIf _ _).andThen fun w => w.keeps_raiseIf _ _).trans (Vdc.keeps_setRow _ _ _)

theorem Vdc.keeps_endOfLine (pal : Store (BitVec 9)) (l : Nat) (v : Vdc) :
    v.Keeps p (v.endOfLine p pal l).1 := by
  unfold Vdc.endOfLine
  split
  · exact (v.keeps_setSnap l v.record).trans (Vdc.keeps_renderLine pal l _)
  · exact .refl p v

/-- What holds of the VDC between two passes of the loop of 61_video.md R535. -/
structure Vdc.InFrame (p : Params) (v : Vdc) : Prop where
  memOk : v.memOk p = true
  line : v.line < p.linesPerFrame

theorem Vdc.nextLine_clock (pal : Store (BitVec 9)) (v : Vdc) :
    (v.nextLine p pal).1.clock = v.clock :=
  (Vdc.keeps_startOfLine (p := p) _ _).clock.trans (v.keeps_endOfLine (p := p) pal v.line).clock

theorem Vdc.InFrame.nextLine (h : v.InFrame p) (pal : Store (BitVec 9)) :
    (v.nextLine p pal).1.InFrame p := by
  have he := v.keeps_endOfLine (p := p) pal v.line
  have hs := Vdc.keeps_startOfLine (p := p)
    { (v.endOfLine p pal v.line).1 with
      line := ((v.endOfLine p pal v.line).1.line + 1) % p.linesPerFrame }
    (((v.endOfLine p pal v.line).1.line + 1) % p.linesPerFrame)
  exact ⟨hs.memOk (he.memOk h.memOk),
    hs.line.trans_lt (Nat.mod_lt _ (Nat.zero_lt_of_lt h.line))⟩

theorem Vdc.nextLines_clock (pal : Store (BitVec 9)) (n : Nat) (v : Vdc) :
    (v.nextLines p pal n).1.clock = v.clock := by
  induction n generalizing v with
  | zero => rfl
  | succ n ih => exact (ih _).trans (v.nextLine_clock pal)

theorem Vdc.InFrame.nextLines (h : v.InFrame p) (pal : Store (BitVec 9)) (n : Nat) :
    (v.nextLines p pal n).1.InFrame p := by
  induction n generalizing v with
  | zero => exact h
  | succ n ih => exact ih (h.nextLine pal)

/-- After an advance the clock is a place within the line. -/
theorem Vdc.advance_clock_lt (pal : Store (BitVec 9)) (m : Nat) (v : Vdc) :
    (v.advance p pal m).1.clock < 1365 := by
  unfold Vdc.advance
  rw [Vdc.nextLines_clock]
  exact Nat.mod_lt _ (by decide)

theorem Vdc.InFrame.advance (h : v.InFrame p) (pal : Store (BitVec 9)) (m : Nat) :
    (v.advance p pal m).1.InFrame p :=
  Vdc.InFrame.nextLines (v := { v with clock := (v.clock + m) % 1365 }) ⟨h.memOk, h.line⟩ pal _

end Sys2Proof.Machine
end

section
/-! PROOFS. What every bus access and stack operation keeps, and how every instruction ends (10_state.md
R36, R42; 60_exceptions.md R400). -/

namespace Sys2Proof.Machine

variable {s t u : State}

/-! ### Orderly moves -/

/-- What `State.timeOk` says, part by part. -/
theorem State.timeOk_iff : s.timeOk = true ↔
    s.timer.prescale < 3072 ∧ s.vdc.clock < 1365 ∧ s.vdc.line < s.params.linesPerFrame := by
  simp only [State.timeOk, Bool.and_eq_true, decide_eq_true_eq, and_assoc]

/-- A move of the machine that touches neither ROM nor the parameters and keeps the memories canonical and
the counters in their ranges. -/
structure Orderly (s t : State) : Prop where
  rom : t.rom = s.rom
  params : t.params = s.params
  memOk : s.memOk = true → t.memOk = true
  timeOk : s.timeOk = true → t.timeOk = true

theorem Orderly.refl (s : State) : Orderly s s := ⟨rfl, rfl, id, id⟩

theorem Orderly.trans (h : Orderly s t) (k : Orderly t u) : Orderly s u :=
  ⟨k.rom.trans h.rom, k.params.trans h.params, k.memOk ∘ h.memOk, k.timeOk ∘ h.timeOk⟩

/-- The CPU's registers are no part of what an orderly move keeps. -/
theorem Orderly.withCpu (s : State) (c : Cpu) : Orderly s { s with cpu := c } := ⟨rfl, rfl, id, id⟩

theorem State.setA_orderly (s : State) (v : Byte) : Orderly s (s.setA v) := .withCpu s _
theorem State.setX_orderly (s : State) (v : Byte) : Orderly s (s.setX v) := .withCpu s _
theorem State.setY_orderly (s : State) (v : Byte) : Orderly s (s.setY v) := .withCpu s _
theorem State.setSp_orderly (s : State) (v : Byte) : Orderly s (s.setSp v) := .withCpu s _
theorem State.setPc_orderly (s : State) (w : Word) : Orderly s (s.setPc w) := .withCpu s _
theorem State.setP_orderly (s : State) (f : Flags) : Orderly s (s.setP f) := .withCpu s _

theorem Orderly.draw {α : Type} (f : Nat → α) (s : State) : Orderly s (s.draw f).2 :=
  ⟨rfl, rfl, id, id⟩

theorem ReadsOnly.orderly (h : ReadsOnly s t) : Orderly s t := by
  rw [h]
  exact ⟨rfl, rfl, id, id⟩

theorem Orderly.withVdc {v : Vdc} (h : s.vdc.Keeps s.params v) (q : Irq) :
    Orderly s { s with vdc := v, irq := q } := by
  refine ⟨rfl, rfl, fun hs => ?_, fun hs => ?_⟩
  · rw [State.memOk_iff] at hs ⊢
    obtain ⟨hrom, hwram, hcart, hstore, hwramSize, hstoreSize, hcartSize, hvdc, hvce⟩ := hs
    exact ⟨hrom, hwram, hcart, hstore, hwramSize, hstoreSize, hcartSize, h.memOk hvdc, hvce⟩
  · rw [State.timeOk_iff] at hs ⊢
    obtain ⟨hprescale, hclock, hline⟩ := hs
    exact ⟨hprescale, h.clock.trans_lt hclock, h.line.trans_lt hline⟩

/-! ### Reads -/

theorem memRead_readsOnly (a : Word) (s : State) : ReadsOnly s (memRead a s).2 :=
  s.readPlace_readsOnly _

theorem read16_readsOnly (a : Word) (s : State) : ReadsOnly s (read16 a s).2 :=
  (memRead_readsOnly a s).trans (memRead_readsOnly _ _)

theorem zpRead16_readsOnly (z : Byte) (s : State) : ReadsOnly s (zpRead16 z s).2 :=
  (memRead_readsOnly _ s).trans (memRead_readsOnly _ _)

theorem ea_readsOnly (m : Addr) (s : State) : ReadsOnly s (ea m s).2 := by
  cases m with
  | ind z => exact zpRead16_readsOnly z s
  | indX z => exact zpRead16_readsOnly _ s
  | indY z => exact zpRead16_readsOnly z s
  | _ => rfl

theorem readOperand_readsOnly (o : Operand) (s : State) : ReadsOnly s (readOperand o s).2 := by
  cases o with
  | imm b => rfl
  | mem m => exact (ea_readsOnly m s).trans (memRead_readsOnly _ _)

theorem memRead_orderly (a : Word) (s : State) : Orderly s (memRead a s).2 :=
  (memRead_readsOnly a s).orderly

theorem ea_orderly (m : Addr) (s : State) : Orderly s (ea m s).2 := (ea_readsOnly m s).orderly

theorem readOperand_orderly (o : Operand) (s : State) : Orderly s (readOperand o s).2 :=
  (readOperand_readsOnly o s).orderly

/-! ### Writes -/

theorem Timer.writeControl_prescale_le (t : Timer) (b : Byte) :
    (t.writeControl b).prescale ≤ t.prescale := by
  unfold Timer.writeControl
  split
  · exact Nat.zero_le _
  · exact Nat.le_refl _

theorem State.portWrite_orderly (s : State) (b : Byte) (q : HwPort) :
    Orderly s (s.portWrite b q) := by
  have hm : s.memOk = true → (s.portWrite b q).memOk = true := (State.memOk_portWrite · b q)
  cases q with
  | vdcLow => exact .withVdc (s.vdc.keeps_writeLow b) s.irq
  | vdcHigh => exact .withVdc (s.vdc.keeps_writeHigh b) _
  | timerControl =>
    refine ⟨rfl, rfl, hm, fun h => ?_⟩
    rw [State.timeOk_iff] at h ⊢
    exact ⟨(s.timer.writeControl_prescale_le b).trans_lt h.1, h.2⟩
  | _ => exact ⟨rfl, rfl, hm, id⟩

theorem State.writePlace_timeOk (pl : Place) (b : Byte) (h : s.timeOk = true) :
    (s.writePlace pl b).timeOk = true := by
  cases pl with
  | port q => exact (s.portWrite_orderly b q).timeOk h
  | _ => exact h

theorem memWrite_orderly (a : Word) (b : Byte) (s : State) : Orderly s (memWrite a b s) :=
  ⟨memWrite_rom s a b, memWrite_params s a b, (memOk_memWrite · a b),
    State.writePlace_timeOk (s.place a) b⟩

/-! ### The stack, interrupt entry and return -/

theorem push_orderly (v : Byte) (s : State) : Orderly s (push v s) :=
  (memWrite_orderly _ v s).trans (State.setSp_orderly _ _)

theorem pull_orderly (s : State) : Orderly s (pull s).2 :=
  (s.setSp_orderly _).trans (memRead_orderly _ _)

theorem push16_orderly (w : Word) (s : State) : Orderly s (push16 w s) :=
  (push_orderly _ s).trans (push_orderly _ _)

theorem pull16_orderly (s : State) : Orderly s (pull16 s).2 :=
  (pull_orderly s).trans (pull_orderly _)

theorem State.clearRequest_orderly (s : State) (src : Source) : Orderly s (s.clearRequest src) := by
  cases src <;> exact ⟨rfl, rfl, id, id⟩

theorem enterVector_orderly (src : Source) (s : State) : Orderly s (enterVector src s) :=
  (((((push16_orderly _ s).trans (push_orderly _ _)).trans (State.setP_orderly _ _)).trans
    (State.clearRequest_orderly _ src)).trans (read16_readsOnly _ _).orderly).trans
    (State.setPc_orderly _ _)

theorem returnFromInterrupt_orderly (s : State) : Orderly s (returnFromInterrupt s) :=
  (((pull_orderly s).trans (State.setP_orderly _ _)).trans (pull16_orderly _)).trans
    (State.setPc_orderly _ _)

/-! ### Arithmetic -/

theorem decimalResult_orderly (sub : Bool) (acc m : Byte) (s : State) :
    Orderly s (decimalResult sub acc m s).2 := by
  unfold decimalResult
  split
  · exact (Orderly.draw Config.invalidBcdResult s).trans (.draw Config.invalidBcdCarry _)
  · exact .refl s

theorem addOp_orderly (sub : Bool) (acc m : Byte) (s : State) :
    Orderly s (addOp sub acc m s).2 := by
  unfold addOp
  split
  · exact ((decimalResult_orderly sub acc m s).trans (.draw Config.decimalV _)).trans (.withCpu _ _)
  · exact .withCpu s _

theorem AluOp.apply_orderly (op : AluOp) (acc m : Byte) (s : State) :
    Orderly s (op.apply acc m s).2 := by
  cases op with
  | adc => exact addOp_orderly false acc m s
  | sbc => exact addOp_orderly true acc m s
  | and | ora | eor => exact .withCpu s _

theorem aluOnA_orderly (op : AluOp) (o : Operand) (s : State) : Orderly s (aluOnA op o s) :=
  ((readOperand_orderly o s).trans (op.apply_orderly _ _ _)).trans (.withCpu _ _)

theorem aluOnMemory_orderly (op : AluOp) (o : Operand) (s : State) :
    Orderly s (aluOnMemory op o s) :=
  (((readOperand_orderly o s).trans (memRead_orderly _ _)).trans (op.apply_orderly _ _ _)).trans
    (memWrite_orderly _ _ _)

/-! ### Block transfers and mapping registers -/

theorem blockLoop_orderly (st dt : BlockStep) (src dst : Word) (n k : Nat) (s : State) :
    Orderly s (blockLoop st dt src dst n k s) := by
  induction n generalizing k s with
  | zero => exact .refl s
  | succ n ih => exact ((memRead_orderly _ s).trans (memWrite_orderly _ _ _)).trans (ih _ _)

theorem residueAt_orderly (sp : Byte) (s : State) : Orderly s (residueAt sp s) :=
  (Orderly.draw _ s).trans (memWrite_orderly _ _ _)

theorem leaveResidue_orderly (s : State) : Orderly s (leaveResidue s) :=
  ((residueAt_orderly _ s).trans (residueAt_orderly _ _)).trans (residueAt_orderly _ _)

theorem transferToMpr_orderly (nn : Byte) (s : State) : Orderly s (transferToMpr nn s) := by
  unfold transferToMpr
  split <;> exact ⟨rfl, rfl, id, id⟩

theorem transferFromMpr_orderly (nn : Byte) (s : State) : Orderly s (transferFromMpr nn s) := by
  unfold transferFromMpr
  split <;> exact ⟨rfl, rfl, id, id⟩

/-! ### How an instruction ends -/

/-- A meaning that answers a next state, reached by an orderly move, with b in T and AfterSet. -/
def EndsWith (b : Bool) (s : State) (o : Out) : Prop :=
  ∃ c u, o = .next (u.endWith b c) ∧ Orderly s u

theorem Orderly.finish (h : Orderly s u) (c : Nat) : EndsWith false s (finish c u) :=
  ⟨c, u, rfl, h⟩

theorem execAlu_ends (op : AluOp) (o : Operand) (s : State) : EndsWith false s (execAlu op o s) := by
  unfold execAlu
  split
  · exact (aluOnMemory_orderly op o s).finish _
  · exact (aluOnA_orderly op o s).finish _

theorem compareWith_ends (reg : Byte) (o : Operand) (s : State) :
    EndsWith false s (compareWith reg o s) :=
  ((readOperand_orderly o s).trans (.withCpu _ _)).finish _

theorem bitWith_ends (mask : Byte) (o : Operand) (s : State) :
    EndsWith false s (bitWith mask o s) :=
  ((readOperand_orderly o s).trans (.withCpu _ _)).finish _

theorem tstWith_ends (mask : Byte) (a : Addr) (s : State) : EndsWith false s (tstWith mask a s) :=
  ((readOperand_orderly (.mem a) s).trans (.withCpu _ _)).finish _

theorem testSet_ends (f : Byte → Byte → Byte) (a : Addr) (s : State) :
    EndsWith false s (testSet f a s) :=
  ((((ea_orderly a s).trans (memRead_orderly _ _)).trans (memWrite_orderly _ _ _)).trans
    (.withCpu _ _)).finish _

theorem rmwA_ends (op : RmwOp) (s : State) : EndsWith false s (rmwA op s) :=
  (Orderly.withCpu s _).finish _

theorem rmwMem_ends (op : RmwOp) (a : Addr) (s : State) : EndsWith false s (rmwMem op a s) :=
  ((((ea_orderly a s).trans (memRead_orderly _ _)).trans (memWrite_orderly _ _ _)).trans
    (.withCpu _ _)).finish _

theorem zpBit_ends (f : Byte → Byte) (zz : Byte) (s : State) : EndsWith false s (zpBit f zz s) :=
  ((memRead_orderly _ s).trans (memWrite_orderly _ _ _)).finish _

theorem blockTransfer_ends (st dt : BlockStep) (src dst len : Word) (s : State) :
    EndsWith false s (blockTransfer st dt src dst len s) :=
  ((blockLoop_orderly st dt src dst _ 0 s).trans (leaveResidue_orderly _)).finish _

theorem branchIf_ends (cond : Bool) (rr : Byte) (s : State) :
    EndsWith false s (branchIf cond rr s) := by
  unfold branchIf
  split
  · exact (Orderly.withCpu s _).finish _
  · exact (Orderly.refl s).finish _

theorem bitBranch_ends (i : Nat) (want : Bool) (zz rr : Byte) (s : State) :
    EndsWith false s (bitBranch i want zz rr s) := by
  have hread : Orderly s (zpRead zz s).2 := memRead_orderly _ s
  unfold bitBranch
  dsimp only
  split
  · exact (hread.trans (.withCpu _ _)).finish _
  · exact hread.finish _

theorem callTo_ends (cost : Nat) (target : Word) (s : State) :
    EndsWith false s (callTo cost target s) :=
  ((push16_orderly _ s).trans (.withCpu _ _)).finish _

theorem jumpThrough_ends (a : Word) (s : State) : EndsWith false s (jumpThrough a s) :=
  ((read16_readsOnly a s).orderly.trans (.withCpu _ _)).finish _

theorem storeValue_ends (m : Addr) (v : Byte) (s : State) : EndsWith false s (storeValue m v s) :=
  ((ea_orderly m s).trans (memWrite_orderly _ _ _)).finish _

theorem pushValue_ends (v : Byte) (s : State) : EndsWith false s (pushValue v s) :=
  (push_orderly v s).finish _

theorem vdcStore_ends (q : HwPort) (nn : Byte) (s : State) : EndsWith false s (vdcStore q nn s) :=
  (s.portWrite_orderly nn q).finish _

section IntoRegister

/-! The operations that take the register they write as an argument. -/

variable {put : State → Byte → State} (hput : ∀ s v, Orderly s (put s v))
include hput

theorem loadWith_ends (o : Operand) (s : State) : EndsWith false s (loadWith put o s) :=
  (((readOperand_orderly o s).trans (hput _ _)).trans (.withCpu _ _)).finish _

theorem transfer_ends (v : Byte) (s : State) : EndsWith false s (transfer put v s) :=
  ((hput s v).trans (.withCpu _ _)).finish _

theorem stepRegister_ends (v : Byte) (s : State) : EndsWith false s (stepRegister put v s) :=
  ((hput s v).trans (.withCpu _ _)).finish _

theorem pullWith_ends (s : State) : EndsWith false s (pullWith put s) :=
  (((pull_orderly s).trans (hput _ _)).trans (.withCpu _ _)).finish _

end IntoRegister

theorem exec_set (s : State) : exec .set s = .next (s.endWith true s.params.cyc.implied) := rfl

/-- Every instruction but SET ends with T and AfterSet clear (10_state.md R36): its meaning is one of the
shared operations. -/
theorem exec_ends (i : Instr) (s : State) (hi : i ≠ .set) : EndsWith false s (exec i s) := by
  unfold exec
  cases i with
  | set => exact absurd rfl hi
  | oraIndX | oraZp | oraImm | oraAbs | oraIndY | oraInd | oraZpX | oraAbsY | oraAbsX | andIndX
  | andZp | andImm | andAbs | andIndY | andInd | andZpX | andAbsY | andAbsX | eorIndX | eorZp
  | eorImm | eorAbs | eorIndY | eorInd | eorZpX | eorAbsY | eorAbsX | adcIndX | adcZp | adcImm
  | adcAbs | adcIndY | adcInd | adcZpX | adcAbsY | adcAbsX | sbcIndX | sbcZp | sbcImm | sbcAbs
  | sbcIndY | sbcInd | sbcZpX | sbcAbsY | sbcAbsX => exact execAlu_ends _ _ s
  | cpyImm | cmpIndX | cpyZp | cmpZp | cmpImm | cpyAbs | cmpAbs | cmpIndY | cmpInd | cmpZpX
  | cmpAbsY | cmpAbsX | cpxImm | cpxZp | cpxAbs => exact compareWith_ends _ _ s
  | bitZp | bitAbs | bitZpX | bitAbsX | bitImm => exact bitWith_ends _ _ s
  | tstImmZp | tstImmAbs | tstImmZpX | tstImmAbsX => exact tstWith_ends _ _ s
  | tsbZp | tsbAbs | trbZp | trbAbs => exact testSet_ends _ _ s
  | aslA | incA | rolA | decA | lsrA | rorA => exact rmwA_ends _ s
  | aslZp | aslAbs | aslZpX | aslAbsX | rolZp | rolAbs | rolZpX | rolAbsX | lsrZp | lsrAbs
  | lsrZpX | lsrAbsX | rorZp | rorAbs | rorZpX | rorAbsX | decZp | decAbs | decZpX | decAbsX
  | incZp | incAbs | incZpX | incAbsX => exact rmwMem_ends _ _ s
  | rmb0 | rmb1 | rmb2 | rmb3 | rmb4 | rmb5 | rmb6 | rmb7 | smb0 | smb1 | smb2 | smb3 | smb4
  | smb5 | smb6 | smb7 => exact zpBit_ends _ _ s
  | tii | tdd | tin | tia | tai => exact blockTransfer_ends _ _ _ _ _ s
  | bpl | bmi | bvc | bvs | bcc | bcs | bne | beq => exact branchIf_ends _ _ s
  | bbr0 | bbr1 | bbr2 | bbr3 | bbr4 | bbr5 | bbr6 | bbr7 | bbs0 | bbs1 | bbs2 | bbs3 | bbs4
  | bbs5 | bbs6 | bbs7 => exact bitBranch_ends _ _ _ _ s
  | jsr | bsr => exact callTo_ends _ _ s
  | jmpInd | jmpIndX => exact jumpThrough_ends _ s
  | stzZp | stzZpX | staIndX | styZp | staZp | stxZp | styAbs | staAbs | stxAbs | staIndY
  | staInd | styZpX | staZpX | stxZpY | staAbsY | stzAbs | staAbsX | stzAbsX =>
    exact storeValue_ends _ _ s
  | php | pha | phy | phx => exact pushValue_ends _ s
  | st0 | st1 | st2 => exact vdcStore_ends _ _ s
  | dex | inx => exact stepRegister_ends State.setX_orderly _ s
  | dey | iny => exact stepRegister_ends State.setY_orderly _ s
  | ldaIndX | ldaZp | ldaImm | ldaAbs | ldaIndY | ldaInd | ldaZpX | ldaAbsY | ldaAbsX =>
    exact loadWith_ends State.setA_orderly _ s
  | ldxImm | ldxZp | ldxAbs | ldxZpY | ldxAbsY => exact loadWith_ends State.setX_orderly _ s
  | ldyImm | ldyZp | ldyAbs | ldyZpX | ldyAbsX => exact loadWith_ends State.setY_orderly _ s
  | txa | tya => exact transfer_ends State.setA_orderly _ s
  | tax | tsx => exact transfer_ends State.setX_orderly _ s
  | tay => exact transfer_ends State.setY_orderly _ s
  | pla => exact pullWith_ends State.setA_orderly s
  | plx => exact pullWith_ends State.setX_orderly s
  | ply => exact pullWith_ends State.setY_orderly s
  | clc | sec | cli | sei | clv | cld | sed | csl | csh | wai | stp | txs | sax | say | sxy
  | cla | clx | cly | bra | jmpAbs => exact (Orderly.withCpu s _).finish _
  | nop | undefined => exact (Orderly.refl s).finish _
  | tam => exact (transferToMpr_orderly _ s).finish _
  | tma => exact (transferFromMpr_orderly _ s).finish _
  | plp => exact ((pull_orderly s).trans (.withCpu _ _)).finish _
  | rts => exact ((pull16_orderly s).trans (.withCpu _ _)).finish _
  | rti => exact (returnFromInterrupt_orderly s).finish _
  | brk => exact (enterVector_orderly .brk s).finish _

/-- Settles O6: SET sets T and AfterSet by itself, and every other instruction ends by clearing them. -/
theorem everyInstructionCompletes : Obligations.EveryInstructionCompletes := by
  intro i s
  by_cases hi : i = .set
  · subst hi
    exact ⟨_, exec_set s, rfl, rfl, rfl, rfl⟩
  · obtain ⟨c, u, he, hu⟩ := exec_ends i s hi
    rw [decide_eq_false hi]
    exact ⟨_, he, rfl, rfl, hu.rom, hu.params⟩

end Sys2Proof.Machine
end

section
/-! PROOFS. The invariant between two steps (10_state.md R42, R46, R48-R51): the fetch, the device advance
and each kind of step keep it. -/

namespace Sys2Proof.Machine

variable {s t : State}

/-- What the invariant says, part by part. -/
theorem State.inv_iff : s.inv = true ↔
    s.memOk = true ∧ s.timeOk = true ∧ s.cpu.afterSet = s.cpu.p.t := by
  simp only [State.inv, State.boundaryOk, Bool.and_eq_true, beq_iff_eq, and_assoc]

/-! ### The fetch -/

theorem fetch_orderly (s : State) : Orderly s (fetch s).2 :=
  (memRead_orderly s.cpu.pc s).trans (State.setPc_orderly _ _)

theorem fetchBytes_orderly (n : Nat) (s : State) : Orderly s (fetchBytes n s).2 := by
  induction n generalizing s with
  | zero => exact .refl s
  | succ n ih => exact (fetch_orderly s).trans (ih _)

theorem fetchInstr_orderly (s : State) : Orderly s (fetchInstr s).2 :=
  (fetch_orderly s).trans (fetchBytes_orderly _ _)

/-! ### The device advance -/

/-- After an advance the prescaler is below one tick, whether the timer runs or not (60_exceptions.md
R426). -/
theorem Timer.advance_prescale_lt {r : Timer} (h : r.prescale < 3072) (mc : Nat) :
    (r.advance mc).1.prescale < 3072 := by
  unfold Timer.advance
  split
  · rw [(Timer.ticks_only _ _).2.2]
    exact Nat.mod_lt _ (by decide)
  · exact h

theorem State.timerAdvance_orderly (mc : Nat) (s : State) : Orderly s (s.timerAdvance mc) := by
  refine ⟨rfl, rfl, id, fun h => ?_⟩
  rw [State.timeOk_iff] at h ⊢
  exact ⟨Timer.advance_prescale_lt h.1 mc, h.2⟩

theorem State.psgTick_orderly (s : State) : Orderly s s.psgTick := ⟨rfl, rfl, id, id⟩

/-- The VDC's advance needs the memories and the line number to be sound together: the lines it renders go
into the memories, and the number it counts from is its position. -/
theorem State.vdcAdvance_keeps (m : Nat) (hm : s.memOk = true) (ht : s.timeOk = true) :
    (s.vdcAdvance m).memOk = true ∧ (s.vdcAdvance m).timeOk = true := by
  rw [State.memOk_iff] at hm ⊢
  rw [State.timeOk_iff] at ht ⊢
  obtain ⟨hrom, hwram, hcart, hstore, hwramSize, hstoreSize, hcartSize, hvdc, hvce⟩ := hm
  obtain ⟨hprescale, -, hline⟩ := ht
  have hframe := Vdc.InFrame.advance ⟨hvdc, hline⟩ s.vce.palette m
  exact ⟨⟨hrom, hwram, hcart, hstore, hwramSize, hstoreSize, hcartSize, hframe.memOk, hvce⟩,
    hprescale, s.vdc.advance_clock_lt _ m, hframe.line⟩

/-- The device advance keeps the invariant: the CPU is none of its business. -/
theorem State.inv_advance (c : Nat) (h : s.inv = true) : (s.advance c).inv = true := by
  rw [State.inv_iff] at h ⊢
  obtain ⟨hm, ht, hb⟩ := h
  have ho := (s.timerAdvance_orderly (c * s.cpu.speed.clocks)).trans (State.psgTick_orderly _)
  have hv (m : Nat) := State.vdcAdvance_keeps m (ho.memOk hm) (ho.timeOk ht)
  exact ⟨(hv _).1, (hv _).2, hb⟩

/-! ### The kinds of step -/

/-- The end of an instruction makes AfterSet equal to T, whatever they were in between. -/
theorem Orderly.inv_endWith (h : Orderly s t) (hs : s.inv = true) (b : Bool) (c : Nat) :
    (t.endWith b c).inv = true := by
  rw [State.inv_iff] at hs ⊢
  obtain ⟨hm, ht, -⟩ := hs
  exact ⟨h.memOk hm, h.timeOk ht, rfl⟩

theorem EndsWith.inv {b : Bool} (h : EndsWith b s (.next t)) (hs : s.inv = true) :
    t.inv = true := by
  obtain ⟨c, u, he, hu⟩ := h
  cases he
  exact hu.inv_endWith hs b c

theorem exec_keeps_inv {i : Instr} (hs : s.inv = true) (h : exec i s = .next t) : t.inv = true := by
  by_cases hi : i = .set
  · subst hi
    rw [exec_set] at h
    cases h
    exact (Orderly.refl s).inv_endWith hs true _
  · exact EndsWith.inv (h ▸ exec_ends i s hi) hs

/-- A fetch does not end an instruction, but leaves AfterSet and T as they were. -/
theorem fetchInstr_keeps_inv (hs : s.inv = true) : (fetchInstr s).2.inv = true := by
  rw [State.inv_iff] at hs ⊢
  obtain ⟨hm, ht, hb⟩ := hs
  have ho := fetchInstr_orderly s
  refine ⟨ho.memOk hm, ho.timeOk ht, ?_⟩
  simpa [fetchInstr, fetchBytes_cpu, fetch_eq] using hb

theorem instrStep_keeps_inv (hs : s.inv = true) (h : instrStep s = .next t) : t.inv = true := by
  unfold instrStep at h
  dsimp only at h
  split at h
  · rename_i u hu
    cases h
    exact State.inv_advance _ (exec_keeps_inv (fetchInstr_keeps_inv hs) hu)
  · cases h
  · cases h

/-- Entry clears AfterSet, and T with the flags it sets (60_exceptions.md R405). -/
theorem interruptEntry_keeps_inv (src : Source) (hs : s.inv = true) :
    (interruptEntry src s).inv = true := by
  have ho := enterVector_orderly src s
  have hT : (enterVector src s).cpu.p.t = false := by
    cases src <;> simp [enterVector, State.clearRequest, Flags.onEntry]
  rw [State.inv_iff] at hs ⊢
  obtain ⟨hm, ht, -⟩ := hs
  unfold interruptEntry
  generalize enterVector src s = u at ho hT
  exact ⟨ho.memOk hm, ho.timeOk ht, hT.symm⟩

theorem interruptStep_keeps_inv (src : Source) (hs : s.inv = true) :
    (interruptStep src s).inv = true :=
  State.inv_advance _ (interruptEntry_keeps_inv src hs)

theorem idleStep_keeps_inv (hs : s.inv = true) : (idleStep s).inv = true := by
  unfold idleStep
  exact State.inv_advance s.params.idleStepCycles hs

/-- Settles O8, by the three kinds of step: each is an orderly move that leaves AfterSet equal to T,
followed by the device advance. -/
theorem stepKeepsMachineWellFormed : Obligations.StepKeepsMachineWellFormed := by
  intro s t _ hs h
  have hidle : { s with psgWrites := [] }.inv = true := hs
  have hrun : { s with psgWrites := [], cpu := { s.cpu with runState := .running } }.inv = true := hs
  obtain ⟨_, rfl⟩ | ⟨_, _, src, _, rfl⟩ | ⟨_, _, hinstr⟩ := step_cases s h
  · exact idleStep_keeps_inv hidle
  · exact interruptStep_keeps_inv src hrun
  · exact instrStep_keeps_inv hrun hinstr

end Sys2Proof.Machine
end

section
/-! PROOFS. The stack instructions (40_load_store.md R180-R187). -/

namespace Sys2Proof.Machine

/-! ### Pushes -/

/-- The state after a push instruction of v: one write at the stack address, S down by 1, and the end of
the instruction. -/
def pushed (v : Byte) (s : State) : State :=
  { memWrite (0x2100 + s.cpu.sp.zeroExtend 16) v s with
    cycles := s.params.cyc.push
    cpu :=
      { s.cpu with sp := s.cpu.sp - 1, p := { s.cpu.p with t := false }, afterSet := false } }

theorem pushValue_eq (v : Byte) (s : State) : pushValue v s = .next (pushed v s) := by
  simp only [pushValue, finish, State.endWith, push_eq, pushed, stackAddr_eq]

theorem pushed_memoryKeptBut (v : Byte) (s : State) :
    MemoryKeptBut [s.place (0x2100 + s.cpu.sp.zeroExtend 16)] s (pushed v s) := by
  have hreads : ReadsOnly s s := rfl
  exact (hreads.memoryKeptBut_memWrite _ v).congr rfl rfl rfl rfl

/-- Settles O20: each of the four is `pushValue` of its byte, PHP's being the byte with B = 1. -/
theorem pushesWriteStackByte : Obligations.PushesWriteStackByte := by
  intro s i v hv
  suffices h : exec i s = pushValue v s from
    ⟨h.trans (pushValue_eq v s), pushed_memoryKeptBut v s⟩
  obtain ⟨rfl, rfl⟩ | ⟨rfl, rfl⟩ | ⟨rfl, rfl⟩ | ⟨rfl, hbyte⟩ := hv
  · rfl
  · rfl
  · rfl
  · have hphp : v = s.cpu.p.toByte true :=
      BitVec.eq_of_toNat_eq (hbyte.trans (s.cpu.p.toByte_toNat true).symm)
    rw [hphp]
    rfl

/-! ### Pulls -/

/-- A pull, with the stack address as a sum (10_state.md R34). -/
theorem pull_eq_sum (s : State) :
    let m := memRead (0x2100 + (s.cpu.sp + 1).zeroExtend 16) s
    pull s = (m.1, { m.2 with cpu := { s.cpu with sp := s.cpu.sp + 1 } }) := by
  simp only [pull_eq, stackAddr_eq]

/-- N and Z as comparisons (00_scope.md R14). -/
theorem Flags.setNZ_eq (f : Flags) (v : Byte) :
    f.setNZ v = { f with n := decide (128 ≤ v.toNat), z := decide (v = 0) } := by
  rw [Flags.setNZ, msb_eq]
  rfl

/-- The flags of a byte as comparisons, bit 4 ignored (10_state.md R35). -/
theorem Flags.ofByte_eq (v : Byte) :
    Flags.ofByte v =
      { n := decide (128 ≤ v.toNat), v := decide (64 ≤ v.toNat % 128)
        t := decide (32 ≤ v.toNat % 64), d := decide (8 ≤ v.toNat % 16)
        i := decide (4 ≤ v.toNat % 8), z := decide (2 ≤ v.toNat % 4)
        c := decide (1 ≤ v.toNat % 2) } := by
  revert v
  decide

/-- Settles O21: each of the four is a pull and then the register or the flags. -/
theorem pullsReadStackByte : Obligations.PullsReadStackByte := by
  intro s sp m p done
  have hreads : ReadsOnly s m.2 := memRead_readsOnly _ s
  have hpull : pull s = (m.1, { m.2 with cpu := { s.cpu with sp := sp } }) := pull_eq_sum s
  refine ⟨?_, ?_, ?_, ?_, hreads, hreads.memoryKept⟩
  · show pullWith State.setA s = _
    simp only [pullWith, hpull, State.setNZ, Flags.setNZ_eq]
    rfl
  · show pullWith State.setX s = _
    simp only [pullWith, hpull, State.setNZ, Flags.setNZ_eq]
    rfl
  · show pullWith State.setY s = _
    simp only [pullWith, hpull, State.setNZ, Flags.setNZ_eq]
    rfl
  · show execPlp s = _
    simp only [execPlp, hpull, Flags.ofByte_eq]
    rfl

end Sys2Proof.Machine
end

section
/-! PROOFS. The mapping registers' transfers (43_system.md R320, R321). -/

namespace Sys2Proof.Machine

/-- The bit i that is set with none set below it is the lowest. -/
theorem lowestSetBit_eq_some {b : Byte} {i : Fin 8} (hi : b.getLsbD i = true)
    (hlow : ∀ j < i, b.getLsbD j = false) : lowestSetBit b = some i := by
  revert b i
  decide

theorem transferToMpr_some {nn : Byte} {i : Fin 8} (h : lowestSetBit nn = some i) (s : State) :
    transferToMpr nn s = { s with mpr := s.mpr.set i s.cpu.a } := by
  simp only [transferToMpr, h]

theorem transferFromMpr_some {nn : Byte} {i : Fin 8} (h : lowestSetBit nn = some i) (s : State) :
    transferFromMpr nn s = s.setA s.mpr[i] := by
  simp only [transferFromMpr, h]

/-- Settles O39, by the operand's lowest 1 bit: the slot it names, or none for operand 0. -/
theorem mappingRegisterTransfers : Obligations.MappingRegisterTransfers := by
  intro nn s c
  refine ⟨fun i hi hlow => ?_, ?_⟩
  · have hslot : lowestSetBit nn = some i := lowestSetBit_eq_some hi hlow
    constructor
    · show finish _ (transferToMpr nn s) = _
      rw [transferToMpr_some hslot]
      rfl
    · show finish _ (transferFromMpr nn s) = _
      rw [transferFromMpr_some hslot]
      rfl
  · rintro rfl
    exact ⟨rfl, _, _, rfl⟩

end Sys2Proof.Machine
end

section
/-! PROOFS. The start state (10_state.md R60). -/

namespace Sys2Proof.Machine

/-- With every unspecified value 0 and no image, the sequence reads its PC from the empty ROM's vector. -/
theorem resetSequence_zero :
    resetSequence (fun _ => 0) (beforeReset Params.default []) = State.reset := rfl

theorem inv_reset : State.reset.inv = true :=
  State.inv_iff.2 ⟨memOk_reset, by decide, rfl⟩

/-- Settles O60: the base case of the invariant, and the reset sequence run on an empty machine. -/
theorem startStateIsAfterReset : Obligations.StartStateIsAfterReset :=
  ⟨inv_reset, resetSequence_zero.symm, rfl, rfl, rfl, rfl, rfl, rfl, rfl, rfl⟩

end Sys2Proof.Machine
end

section
/-! PROOFS. The bus: what is storage, what a write leaves, and where an address leads (20_memory.md
R78-R99). -/

namespace Sys2Proof.Machine

variable {s t u : State}

/-! ### Storage -/

theorem Place.isStorage_iff {pl : Place} : pl.isStorage = true ↔
    ∃ k, pl = .rom k ∨ pl = .wram k ∨ pl = .cart k ∨ pl = .store k := by
  cases pl <;> simp [Place.isStorage]

/-- A read where plain storage lies gives the byte there and changes nothing. -/
theorem memRead_of_isStorage {a : Word} (h : (s.place a).isStorage = true) :
    memRead a s = (s.byteAt (s.place a), s) :=
  have ⟨_, hk⟩ := Place.isStorage_iff.1 h
  memRead_storage s hk

/-! ### Where an address leads depends on the slots and the parameters alone -/

theorem State.place_congr (hmpr : t.mpr = s.mpr) (hparams : t.params = s.params) (a : Word) :
    t.place a = s.place a := by
  simp only [State.place, State.translate, hmpr, hparams]

/-- Only the ports of the MPR_ALIAS window write the slots (20_memory.md R79). -/
theorem State.writePlace_mpr {pl : Place} (h : ∀ i, pl ≠ .port (.mprAlias i)) (b : Byte) :
    (s.writePlace pl b).mpr = s.mpr := by
  cases pl with
  | port q =>
    cases q with
    | mprAlias i => exact absurd rfl (h i)
    | _ => rfl
  | _ => rfl

theorem memWrite_mpr {a : Word} (h : ∀ i, s.place a ≠ .port (.mprAlias i)) (b : Byte) :
    (memWrite a b s).mpr = s.mpr :=
  State.writePlace_mpr h b

theorem memWrite_place {a : Word} (h : ∀ i, s.place a ≠ .port (.mprAlias i)) (b : Byte) (a' : Word) :
    (memWrite a b s).place a' = s.place a' :=
  State.place_congr (memWrite_mpr h b) (memWrite_params s a b) a'

end Sys2Proof.Machine
end

section
/-! PROOFS. Reads alone: fetches, operand reads and pulls (20_memory.md R78, R100). -/

namespace Sys2Proof.Machine

variable {s : State}

/-- A fetch from storage gives the byte at PC and moves PC past it. -/
theorem fetch_of_isStorage (h : (s.place s.cpu.pc).isStorage = true) :
    fetch s = (s.byteAt (s.place s.cpu.pc), s.setPc (s.cpu.pc + 1)) := by
  simp only [fetch, memRead_of_isStorage h]

/-- Settles O5, by induction on the number of bytes: where addresses lead does not depend on PC, so the
bytes after the first are those the second fetch starts from. -/
theorem fetchReadsBytesAtPc : Obligations.FetchReadsBytesAtPc := by
  intro n
  induction n with
  | zero =>
    intro s _
    simp [fetchBytes]
  | succ n ih =>
    intro s h
    have hfirst : (s.place s.cpu.pc).isStorage = true := by simpa using h 0 (Nat.zero_lt_succ n)
    have hnext (k : Nat) :
        s.cpu.pc + 1 + BitVec.ofNat 16 k = s.cpu.pc + BitVec.ofNat 16 (k + 1) := by
      rw [BitVec.add_assoc, Nat.add_comm k 1, BitVec.ofNat_add]
      rfl
    have hplace (a : Word) : (s.setPc (s.cpu.pc + 1)).place a = s.place a := rfl
    have hbyte (pl : Place) : (s.setPc (s.cpu.pc + 1)).byteAt pl = s.byteAt pl := by
      cases pl <;> rfl
    have hrest := ih (s.setPc (s.cpu.pc + 1)) fun k hk => by
      rw [State.setPc_pc, hnext, hplace]
      exact h (k + 1) (Nat.succ_lt_succ hk)
    simp only [State.setPc_pc, hnext, hplace, hbyte] at hrest
    rw [fetchBytes, fetch_of_isStorage hfirst, hrest, List.range_succ_eq_map, List.map_cons,
      List.map_map]
    simp [State.setPc, Function.comp_def]

/-- Settles O16: every operand read is one read after another, and a pull is a read after S moved. -/
theorem readsChangeOnlyDevices : Obligations.ReadsChangeOnlyDevices := by
  intro s a o m
  have hpull : ReadsOnly (s.setSp (s.cpu.sp + 1)) (pull s).2 := memRead_readsOnly _ _
  exact ⟨memRead_readsOnly a s, read16_readsOnly a s, ea_readsOnly m s, readOperand_readsOnly o s,
    hpull, memRead_of_isStorage⟩

end Sys2Proof.Machine
end

section
/-! PROOFS. Reads after writes (20_memory.md R81-R85, R99). -/

namespace Sys2Proof.Machine

variable {s : State}

/-- A write to ROM or to an unmapped page is ignored (20_memory.md R81, R85). -/
theorem memWrite_ignored {a : Word} (h : (∃ k, s.place a = .rom k) ∨ s.place a = .unmapped)
    (b : Byte) : memWrite a b s = s := by
  show s.writePlace (s.place a) b = s
  obtain ⟨k, hrom⟩ | hnone := h
  · rw [hrom]
    rfl
  · rw [hnone]
    rfl

/-- Settles O46: a write to storage moves no place, so the read after it finds the byte written or the
byte from before. -/
theorem readAfterWrite : Obligations.ReadAfterWrite := by
  intro s a a' b hm
  refine ⟨fun h => memWrite_ignored h b, ?_⟩
  rintro ⟨k, hk⟩ hread
  have hport (i : Fin 8) : s.place a ≠ .port (.mprAlias i) := by
    obtain h | h | h := hk <;> simp [h]
  have hplace := memWrite_place hport b a'
  rw [memRead_of_isStorage (hplace ▸ hread), hplace]
  split
  · next heq => rw [heq, byteAt_memWrite_same s hk hm b]
  · next hne => rw [byteAt_memWrite_other s (Ne.symm hne) b]

end Sys2Proof.Machine
end

section
/-! PROOFS. Translation through the slots as they stand (20_memory.md R78). -/

namespace Sys2Proof.Machine

variable {s t : State}

/-- The physical address of a logical one under given slots: the page by the top 3 bits, the offset by the
low 13 (20_memory.md R78). -/
def physOf (pages : Fin 8 → Byte) (a : Word) : Phys where
  page := pages ⟨a.toNat / 8192, by have := a.isLt; omega⟩
  offset := BitVec.ofNat 13 (a.toNat % 8192)

theorem State.translate_eq_physOf {pages : Fin 8 → Byte} (h : ∀ j : Fin 8, t.mpr[j] = pages j)
    (a : Word) : t.translate a = physOf pages a := by
  have hslot : slotOf a = ⟨a.toNat / 8192, by have := a.isLt; omega⟩ := Fin.ext (slotOf_val a)
  have hpage : (t.translate a).page = (physOf pages a).page := by
    show t.mpr[slotOf a] = _
    rw [h, hslot]
    rfl
  calc t.translate a = ⟨(t.translate a).page, (t.translate a).offset⟩ := rfl
    _ = physOf pages a := by rw [hpage, t.translate_offset]; rfl

/-- Every access of a state goes through the slots it holds. -/
theorem accesses_through {pages : Fin 8 → Byte} (h : ∀ j : Fin 8, t.mpr[j] = pages j) :
    (∀ a, memRead a t = physRead (physOf pages a) t ∧
      ∀ b, memWrite a b t = physWrite (physOf pages a) b t) ∧
      (fetch t).1 = (physRead (physOf pages t.cpu.pc) t).1 := by
  have hread (a : Word) : memRead a t = physRead (physOf pages a) t := by
    rw [memRead, State.translate_eq_physOf h]
  have hwrite (a : Word) (b : Byte) : memWrite a b t = physWrite (physOf pages a) b t := by
    rw [memWrite, State.translate_eq_physOf h]
  exact ⟨fun a => ⟨hread a, hwrite a⟩, by rw [fetch_eq, hread]⟩

/-- One slot set: the others stand. -/
theorem getElem_set_slot (m : Vector Byte 8) (i j : Fin 8) (v : Byte) :
    (m.set i v)[j] = if j = i then v else m[j] := by
  simp only [Fin.getElem_fin, Vector.getElem_set, Fin.ext_iff, eq_comm]

theorem lowestSetBit_oneHot (i : Fin 8) : lowestSetBit (1#8 <<< i.val) = some i := by
  revert i
  decide

/-- TAM of a one-bit operand sets that bit's slot and ends (43_system.md R320). -/
theorem exec_tam_oneHot (i : Fin 8) (s : State) :
    exec (.tam (1#8 <<< i.val)) s =
      .next (State.endWith false s.params.cyc.tam { s with mpr := s.mpr.set i s.cpu.a }) := by
  show finish _ (transferToMpr _ s) = _
  rw [transferToMpr_some (lowestSetBit_oneHot i)]
  rfl

/-- A write through the MPR_ALIAS window sets the slot it names (20_memory.md R79). -/
theorem memWrite_mprAlias {a : Word} {i : Fin 8} (h : s.place a = .port (.mprAlias i)) (b : Byte) :
    memWrite a b s = { s with mpr := s.mpr.set i b } := by
  show s.writePlace (s.place a) b = _
  rw [h]
  rfl

/-- Settles O44: each of the three states holds the slots named, so its accesses go through them. -/
theorem translationUsesSlotsNow : Obligations.TranslationUsesSlotsNow := by
  intro s b i phys now changed
  obtain ⟨hnow, hfetch⟩ := accesses_through (t := s) (pages := now) fun _ => rfl
  refine ⟨fun a => ⟨(hnow a).1, (hnow a).2 b⟩, hfetch, ?_, fun w hw => ?_⟩
  · obtain ⟨hthen, hfetch'⟩ := accesses_through
      (t := State.endWith false s.params.cyc.tam { s with mpr := s.mpr.set i s.cpu.a })
      (pages := changed s.cpu.a) (getElem_set_slot s.mpr i · s.cpu.a)
    exact ⟨_, exec_tam_oneHot i s, fun a => ⟨(hthen a).1, (hthen a).2 b⟩, hfetch'⟩
  · obtain ⟨hthen, hfetch'⟩ := accesses_through (t := { s with mpr := s.mpr.set i b })
      (pages := changed b) (getElem_set_slot s.mpr i · b)
    rw [memWrite_mprAlias hw]
    exact ⟨fun a => (hthen a).1, hfetch'⟩

end Sys2Proof.Machine
end
section
/-! PROOFS. The physical map (20_memory.md R79-R99). -/

namespace Sys2Proof.Machine

variable {p : Params} {o : Nat}

/-! ### The hardware page, region by region (20_memory.md R91-R99) -/

theorem regionDecode_vdc (h : o < 0x400) :
    regionDecode p o =
      if o < p.vdcSpan ∧ o % 4 = 0 then .port .vdcStatus
      else if o < p.vdcSpan ∧ o % 4 = 2 then .port .vdcLow
      else if o < p.vdcSpan ∧ o % 4 = 3 then .port .vdcHigh
      else .store o := by
  have hregion : o / 0x400 = 0 := by omega
  have hmod : o % 4 < 4 := Nat.mod_lt _ (by decide)
  simp only [regionDecode, hregion]
  by_cases hspan : o < p.vdcSpan
  · interval_cases o % 4 <;> simp [hspan]
  · simp [hspan]

theorem regionDecode_vce (hlow : 0x400 ≤ o) (hhigh : o < 0x800) :
    regionDecode p o =
      if o % 8 = 0 then .port .vceControl
      else if o % 8 = 2 then .port .vceAddrLow
      else if o % 8 = 3 then .port .vceAddrHigh
      else if o % 8 = 4 then .port .vceDataLow
      else if o % 8 = 5 then .port .vceDataHigh
      else .store o := by
  have hregion : o / 0x400 = 1 := by omega
  have hmod : o % 8 < 8 := Nat.mod_lt _ (by decide)
  simp only [regionDecode, hregion]
  interval_cases o % 8 <;> rfl

theorem regionDecode_psg (hlow : 0x800 ≤ o) (hhigh : o < 0xC00) :
    regionDecode p o = .port (.psg (BitVec.ofNat 4 (o % 16))) := by
  have hregion : o / 0x400 = 2 := by omega
  have hindex : BitVec.ofNat 4 o = BitVec.ofNat 4 (o % 16) := by
    apply BitVec.eq_of_toNat_eq
    simp
  simp only [regionDecode, hregion, hindex]

theorem regionDecode_timer (hlow : 0xC00 ≤ o) (hhigh : o < 0x1000) :
    regionDecode p o = if o % 2 = 0 then .port .timerReload else .port .timerControl := by
  have hregion : o / 0x400 = 3 := by omega
  have hmod : o % 2 < 2 := Nat.mod_lt _ (by decide)
  simp only [regionDecode, hregion]
  interval_cases o % 2 <;> rfl

theorem regionDecode_joypad (hlow : 0x1000 ≤ o) (hhigh : o < 0x1400) :
    regionDecode p o = .port .joypad := by
  have hregion : o / 0x400 = 4 := by omega
  simp only [regionDecode, hregion]

theorem regionDecode_irq (hlow : 0x1400 ≤ o) (hhigh : o < 0x1800) :
    regionDecode p o =
      if o % 4 = 2 then .port .irqDisable else if o % 4 = 3 then .port .irqStatus else .store o := by
  have hregion : o / 0x400 = 5 := by omega
  have hmod : o % 4 < 4 := Nat.mod_lt _ (by decide)
  simp only [regionDecode, hregion]
  interval_cases o % 4 <;> rfl

theorem regionDecode_rest (h : 0x1800 ≤ o) : regionDecode p o = .store o := by
  obtain ⟨n, hregion⟩ : ∃ n, o / 0x400 = n + 6 := ⟨o / 0x400 - 6, by omega⟩
  simp only [regionDecode, hregion]

/-- The decode of the hardware page as one chain of offset ranges. -/
theorem regionDecode_eq (p : Params) (o : Nat) : regionDecode p o =
    if o < 0x400 ∧ o < p.vdcSpan ∧ o % 4 = 0 then .port .vdcStatus
    else if o < 0x400 ∧ o < p.vdcSpan ∧ o % 4 = 2 then .port .vdcLow
    else if o < 0x400 ∧ o < p.vdcSpan ∧ o % 4 = 3 then .port .vdcHigh
    else if 0x400 ≤ o ∧ o < 0x800 ∧ o % 8 = 0 then .port .vceControl
    else if 0x400 ≤ o ∧ o < 0x800 ∧ o % 8 = 2 then .port .vceAddrLow
    else if 0x400 ≤ o ∧ o < 0x800 ∧ o % 8 = 3 then .port .vceAddrHigh
    else if 0x400 ≤ o ∧ o < 0x800 ∧ o % 8 = 4 then .port .vceDataLow
    else if 0x400 ≤ o ∧ o < 0x800 ∧ o % 8 = 5 then .port .vceDataHigh
    else if 0x800 ≤ o ∧ o < 0xC00 then .port (.psg (BitVec.ofNat 4 (o % 16)))
    else if 0xC00 ≤ o ∧ o < 0x1000 ∧ o % 2 = 0 then .port .timerReload
    else if 0xC00 ≤ o ∧ o < 0x1000 then .port .timerControl
    else if 0x1000 ≤ o ∧ o < 0x1400 then .port .joypad
    else if 0x1400 ≤ o ∧ o < 0x1800 ∧ o % 4 = 2 then .port .irqDisable
    else if 0x1400 ≤ o ∧ o < 0x1800 ∧ o % 4 = 3 then .port .irqStatus
    else .store o := by
  by_cases hvdc : o < 0x400
  · rw [regionDecode_vdc hvdc]
    grind
  by_cases hvce : o < 0x800
  · rw [regionDecode_vce (Nat.le_of_not_lt hvdc) hvce]
    grind
  by_cases hpsg : o < 0xC00
  · rw [regionDecode_psg (Nat.le_of_not_lt hvce) hpsg]
    grind
  by_cases htimer : o < 0x1000
  · rw [regionDecode_timer (Nat.le_of_not_lt hpsg) htimer]
    grind
  by_cases hpad : o < 0x1400
  · rw [regionDecode_joypad (Nat.le_of_not_lt htimer) hpad]
    grind
  by_cases hirq : o < 0x1800
  · rw [regionDecode_irq (Nat.le_of_not_lt hpad) hirq]
    grind
  · rw [regionDecode_rest (Nat.le_of_not_lt hirq)]
    grind

/-! ### The MPR_ALIAS window (20_memory.md R79) -/

theorem aliasSlot_inside {base : Nat} (h : p.mprAlias = some base) (i : Fin 8) :
    aliasSlot p (base + i) = some i := by
  have hi : (i : Nat) ≤ 7 := Nat.le_of_lt_succ i.isLt
  simp [aliasSlot, h, hi]

theorem aliasSlot_outside (h : ∀ base, p.mprAlias = some base → o < base ∨ base + 7 < o) :
    aliasSlot p o = none := by
  unfold aliasSlot
  split
  · next base hbase =>
    have := h base hbase
    exact if_neg (by omega)
  · rfl

theorem hwDecode_inside {base : Nat} (h : p.mprAlias = some base) (i : Fin 8) :
    hwDecode p (base + i) = .port (.mprAlias i) := by
  simp only [hwDecode, aliasSlot_inside h]

theorem hwDecode_outside (h : ∀ base, p.mprAlias = some base → o < base ∨ base + 7 < o) :
    hwDecode p o = regionDecode p o := by
  simp only [hwDecode, aliasSlot_outside h]

/-! ### The page map (20_memory.md R80-R85) -/

theorem romBank_eq (p : Params) (page : Nat) :
    romBank p page = p.romBankMap[page]?.getD (page % p.romBanks) := by
  unfold romBank
  cases p.romBankMap[page]? <;> rfl

/-- The default WRAM_PAGES are a run of page ids (20_memory.md R82). -/
theorem mem_defaultWramPages (page : Byte) :
    page ∈ ([0xF8, 0xF9, 0xFA, 0xFB] : List Byte) ↔ 0xF8 ≤ page.toNat ∧ page.toNat ≤ 0xFB := by
  revert page
  decide

/-- The page map with the default WRAM_PAGES, by ranges of the page id. -/
theorem placeOf_default (hw : p.wramPages = [0xF8, 0xF9, 0xFA, 0xFB]) (ph : Phys) :
    placeOf p ph =
      if ph.page.toNat < 0x80 then .rom (romBank p ph.page.toNat * 8192 + ph.offset.toNat)
      else if ph.page = 0xF7 then .cart (ph.offset.toNat % p.cartRamSize)
      else if 0xF8 ≤ ph.page.toNat ∧ ph.page.toNat ≤ 0xFB then .wram ph.offset.toNat
      else if ph.page = 0xFF then hwDecode p ph.offset.toNat
      else .unmapped := by
  simp only [placeOf, hw, mem_defaultWramPages]
  by_cases hhw : ph.page = 0xFF
  · simp [hhw]
  · simp only [hhw, if_false]

/-- Settles O45: the page map, the hardware page's decode and the window's ports, each by its lemma. -/
theorem physicalMap : Obligations.PhysicalMap := by
  refine ⟨fun s a b => ⟨rfl, rfl⟩, ?_, ?_, fun s i b => ⟨rfl, rfl⟩⟩
  · intro s a hw page off bank
    have hpage : (s.translate a).page = page := by
      show s.mpr[(slotOf a).val] = _
      simp only [slotOf_val, page]
    have hoff : (s.translate a).offset.toNat = off := by
      rw [State.translate_offset, BitVec.toNat_ofNat, Nat.mod_mod]
    rw [State.place, placeOf_default hw, hpage, hoff, romBank_eq]
  · intro p o _
    constructor
    · rintro base i hbase rfl
      exact hwDecode_inside hbase i
    · intro hout
      rw [hwDecode_outside hout]
      exact regionDecode_eq p o

end Sys2Proof.Machine
end

section
/-! PROOFS. The frame of the block transfers (44_block_transfer.md R340-R345). -/

namespace Sys2Proof.Machine

variable {s t u : State} {pl : Place}

/-! ### Without an MPR_ALIAS window no write moves a slot -/

theorem regionDecode_ne_mprAlias (p : Params) (o : Nat) (i : Fin 8) :
    regionDecode p o ≠ .port (.mprAlias i) := by
  fun_cases regionDecode p o <;> simp

theorem State.place_ne_mprAlias (h : s.params.mprAlias = none) (a : Word) (i : Fin 8) :
    s.place a ≠ .port (.mprAlias i) := by
  have hhw (o : Nat) : hwDecode s.params o ≠ .port (.mprAlias i) := by
    rw [hwDecode_outside (by simp [h])]
    exact regionDecode_ne_mprAlias s.params o i
  unfold State.place placeOf
  split_ifs <;> simp [hhw]

/-! ### Moves that leave one place alone -/

/-- A move that leaves the slots, the parameters and the byte at one place as they were. -/
structure Spares (pl : Place) (s t : State) : Prop where
  mpr : t.mpr = s.mpr
  params : t.params = s.params
  byte : t.byteAt pl = s.byteAt pl

theorem Spares.refl (pl : Place) (s : State) : Spares pl s s := ⟨rfl, rfl, rfl⟩

theorem Spares.trans (h : Spares pl s t) (k : Spares pl t u) : Spares pl s u :=
  ⟨k.mpr.trans h.mpr, k.params.trans h.params, k.byte.trans h.byte⟩

theorem Spares.place (h : Spares pl s t) (a : Word) : t.place a = s.place a :=
  State.place_congr h.mpr h.params a

theorem ReadsOnly.spares (h : ReadsOnly s t) (pl : Place) : Spares pl s t := by
  have hbyte := h.memoryKept pl
  rw [h] at hbyte ⊢
  exact ⟨rfl, rfl, hbyte⟩

/-- A write elsewhere spares a place. -/
theorem spares_memWrite {a : Word} (halias : s.params.mprAlias = none) (h : s.place a ≠ pl)
    (b : Byte) : Spares pl s (memWrite a b s) :=
  ⟨memWrite_mpr (State.place_ne_mprAlias halias a) b, memWrite_params s a b,
    byteAt_memWrite_other s h b⟩

/-- A write elsewhere, after a move that spares the place, still spares it. -/
theorem Spares.thenWrite {a : Word} (k : Spares pl s t) (halias : s.params.mprAlias = none)
    (h : s.place a ≠ pl) (b : Byte) : Spares pl s (memWrite a b t) :=
  k.trans (spares_memWrite (k.params ▸ halias) (k.place a ▸ h) b)

theorem State.spares_endWith (b : Bool) (c : Nat) (s : State) (pl : Place) :
    Spares pl s (s.endWith b c) := by
  refine ⟨rfl, rfl, ?_⟩
  cases pl <;> rfl

theorem State.draw_readsOnly {α : Type} (f : Nat → α) (s : State) : ReadsOnly s (s.draw f).2 := rfl

/-! ### The loop and the stack bytes -/

/-- The loop spares a place that none of its destinations leads to. -/
theorem blockLoop_spares (st dt : BlockStep) (src dst : Word) (n k : Nat)
    (halias : s.params.mprAlias = none)
    (h : ∀ j, k ≤ j → j < k + n → s.place (dt.addr dst j) ≠ pl) :
    Spares pl s (blockLoop st dt src dst n k s) := by
  induction n generalizing k s with
  | zero => exact .refl pl s
  | succ n ih =>
    have hread := (memRead_readsOnly (st.addr src k) s).spares pl
    have hpass := hread.thenWrite halias (h k (Nat.le_refl k) (by omega))
      (memRead (st.addr src k) s).1
    refine hpass.trans (ih (k + 1) (hpass.params ▸ halias) fun j hlow hhigh => ?_)
    rw [hpass.place]
    exact h j (by omega) (by omega)

theorem Spares.thenResidue {sp : Byte} (k : Spares pl s t) (halias : s.params.mprAlias = none)
    (h : s.place (stackAddr sp) ≠ pl) : Spares pl s (residueAt sp t) :=
  (k.trans ((t.draw_readsOnly Config.blockResidue).spares pl)).thenWrite halias h _

theorem blockLoop_cpu (st dt : BlockStep) (src dst : Word) (n k : Nat) (s : State) :
    (blockLoop st dt src dst n k s).cpu = s.cpu := by
  induction n generalizing k s with
  | zero => rfl
  | succ n ih => rw [blockLoop, ih, memWrite_cpu, memRead_cpu]

/-- The bytes left below S spare a place that none of the three stack addresses leads to. -/
theorem leaveResidue_spares (halias : s.params.mprAlias = none)
    (h : ∀ j < 3, s.place (stackAddr (s.cpu.sp - BitVec.ofNat 8 j)) ≠ pl) :
    Spares pl s (leaveResidue s) := by
  have htop : s.place (stackAddr s.cpu.sp) ≠ pl := by simpa using h 0 (by decide)
  exact (((Spares.refl pl s).thenResidue halias htop).thenResidue halias (h 1 (by decide))).thenResidue
    halias (h 2 (by decide))

theorem blockCount_eq (len : Word) :
    blockCount len = if len.toNat = 0 then 65536 else len.toNat := by
  have hzero : len = 0 ↔ len.toNat = 0 := by bv_omega
  simp only [blockCount, hzero]

/-- Each of the five is `blockTransfer` with the address steps of its rule (44_block_transfer.md
R341-R345). -/
theorem exec_of_mem_blockForms {src dst len : Word} {i : Instr} {sa da : Nat → Word}
    (h : (i, sa, da) ∈ blockForms s.params.e3Variant src dst len) :
    ∃ st dt, sa = st.addr src ∧ da = dt.addr dst ∧
      exec i s = blockTransfer st dt src dst len s := by
  simp only [blockForms, List.mem_cons, List.not_mem_nil, or_false, Prod.mk.injEq] at h
  obtain ⟨rfl, rfl, rfl⟩ | ⟨rfl, rfl, rfl⟩ | ⟨rfl, rfl, rfl⟩ | ⟨rfl, htia⟩ | ⟨rfl, rfl, rfl⟩ := h
  · exact ⟨.inc, .inc, rfl, rfl, rfl⟩
  · exact ⟨.dec, .dec, rfl, rfl, rfl⟩
  · exact ⟨.inc, .fix, rfl, rfl, rfl⟩
  · have hsides : (sa, da) = ((tiaSource s.params.e3Variant).addr src,
        (tiaTarget s.params.e3Variant).addr dst) := by
      rw [htia]
      cases s.params.e3Variant <;> rfl
    obtain ⟨rfl, rfl⟩ := Prod.mk.inj hsides
    exact ⟨_, _, rfl, rfl, rfl⟩
  · exact ⟨.alt, .inc, rfl, rfl, rfl⟩

/-- A block transfer spares a place that none of its destinations and stack addresses leads to. -/
theorem blockTransfer_spares {st dt : BlockStep} {src dst len : Word}
    (halias : s.params.mprAlias = none)
    (hdst : ∀ k < blockCount len, s.place (dt.addr dst k) ≠ pl)
    (hstack : ∀ j < 3, s.place (stackAddr (s.cpu.sp - BitVec.ofNat 8 j)) ≠ pl)
    (h : blockTransfer st dt src dst len s = .next t) : Spares pl s t := by
  obtain rfl := Host.Outcome.next.inj h
  have hloop : Spares pl s (blockLoop st dt src dst (blockCount len) 0 s) :=
    blockLoop_spares st dt src dst (blockCount len) 0 halias fun k _ hk =>
      hdst k (by rwa [Nat.zero_add] at hk)
  have hresidue := leaveResidue_spares (pl := pl) (hloop.params ▸ halias) fun j hj => by
    rw [hloop.place, blockLoop_cpu]
    exact hstack j hj
  exact (hloop.trans hresidue).trans (State.spares_endWith _ _ _ _)

theorem EndsWith.rom {b : Bool} (h : EndsWith b s (.next t)) : t.rom = s.rom := by
  obtain ⟨c, u, he, hu⟩ := h
  obtain rfl := Host.Outcome.next.inj he
  exact hu.rom

/-- Settles O42: every write of the transfer goes where its address led at the start. The slots are kept
because the window's ports are places no write reaches. -/
theorem blockTransferFrame : Obligations.BlockTransferFrame := by
  intro src dst len s t i sa da hform halias hexec n
  obtain ⟨st, dt, -, rfl, hblock⟩ := exec_of_mem_blockForms hform
  have hrun : blockTransfer st dt src dst len s = .next t := hblock.symm.trans hexec
  have hport (a : Word) : s.place a ≠ .port (.mprAlias 0) := State.place_ne_mprAlias halias a 0
  have hslots : Spares (.port (.mprAlias 0)) s t :=
    blockTransfer_spares halias (fun _ _ => hport _) (fun _ _ => hport _) hrun
  have hrom : t.rom = s.rom := EndsWith.rom (hrun ▸ blockTransfer_ends st dt src dst len s)
  refine ⟨hslots.mpr, hrom, fun pl hdst hstack => ?_⟩
  have hcount : blockCount len = n := blockCount_eq len
  exact (blockTransfer_spares halias (hcount ▸ hdst) hstack hrun).byte

end Sys2Proof.Machine
end

section
/-! PROOFS. The device ports (60_exceptions.md R411-R430, 61_video.md R511-R513). -/

namespace Sys2Proof.Machine

/-! ### The timer and the interrupt controller -/

/-- Control write by its bit 0: off, still on, or started afresh (60_exceptions.md R422, R423). -/
theorem Timer.writeControl_eq (t : Timer) (b : Byte) :
    t.writeControl b =
      if b.toNat % 2 = 0 then { t with enabled := false }
      else if t.enabled then t
      else { t with enabled := true, counter := t.reload, prescale := 0 } := by
  have hbit : b.getLsbD 0 = decide (b.toNat % 2 = 1) := by
    simp [BitVec.getLsbD, Nat.testBit_zero]
  unfold Timer.writeControl
  rw [hbit]
  obtain ⟨reload, counter, prescale, enabled⟩ := t
  obtain hb | hb := Nat.mod_two_eq_zero_or_one b.toNat <;> cases enabled <;> simp [hb]

theorem Irq.raise_irq1 (q : Irq) (b : Bool) :
    q.raise 1 b = { q with req := if b then q.req ||| 2 else q.req } := by
  cases b <;> rfl

/-! ### The joypad (60_exceptions.md R430) -/

theorem padWrite_eq (b : Byte) :
    padWrite b = { sel := decide (b.toNat % 2 = 1), clr := decide (b.toNat / 2 % 2 = 1) } := by
  revert b
  decide

/-- The port's byte is its nibble under two fixed bits and two bits of the host. -/
theorem padByte_layout (nib : BitVec 4) (region cd : Bool) :
    (nib.zeroExtend 8 ||| 0x30#8 ||| (if region then 0x40#8 else 0#8)
      ||| (if cd then 0x80#8 else 0#8)).toNat =
        nib.toNat + 48 + 64 * region.toNat + 128 * cd.toNat := by
  revert nib region cd
  decide

/-- The nibble: 0 with CLR, else the selected half of the buttons, pressed as 0. -/
theorem padByte_toNat (p : Params) (q : Pad) (held : Byte) :
    (padByte p q held).toNat =
      (if q.clr then 0 else 15 - (if q.sel then held.toNat % 16 else held.toNat / 16)) + 48
        + 64 * p.regionBit.toNat + 128 * p.cdBit.toNat := by
  have hhigh : held.toNat / 16 % 16 = held.toNat / 16 := by omega
  rw [padByte, padByte_layout]
  congr 3
  cases q.clr <;> cases q.sel <;> simp [BitVec.toNat_not, Nat.shiftRight_eq_div_pow, hhigh]

/-- Settles O48: each port's write or read is its device's function. -/
theorem devicePorts : Obligations.DevicePorts := by
  intro s b x
  have hcontrol : s.writePlace (.port .timerControl) b =
      { s with timer := s.timer.writeControl b } := rfl
  have hpad : s.writePlace (.port .joypad) b = { s with pad := padWrite b } := rfl
  have hhigh : s.writePlace (.port .vdcHigh) b = s.vdcAct (s.vdc.writeHigh s.params b) := rfl
  rw [hcontrol, Timer.writeControl_eq, hpad, padWrite_eq, hhigh, State.vdcAct, Irq.raise_irq1]
  exact ⟨rfl, rfl, rfl, rfl, rfl, rfl, rfl, rfl, rfl,
    ⟨Config.padButtons s.draws, padByte_toNat _ _ _⟩, rfl, rfl, ⟨_, rfl⟩, rfl, rfl, rfl, rfl, rfl⟩

end Sys2Proof.Machine
end

section
/-! PROOFS. The encoding (30_encoding.md R130-R137, R158, R159): the layout of every opcode of the map, and
decoding and encoding as inverses. -/

namespace Sys2Proof

open Sys2Proof.Machine

/-! ### The bytes of a word -/

theorem loByte_joinBytes (lo hi : Byte) : loByte (joinBytes lo hi) = lo :=
  BitVec.extractLsb'_append_eq_right

theorem hiByte_joinBytes (lo hi : Byte) : hiByte (joinBytes lo hi) = hi :=
  BitVec.extractLsb'_append_eq_left

/-! ### What a layout builds -/

theorem Format.build_word (g : Word → Instr) (w : Word) :
    (Format.word g).build [loByte w, hiByte w] = g w :=
  congrArg g (joinBytes_lo_hi w)

theorem Format.build_byteWord (g : Byte → Word → Instr) (b : Byte) (w : Word) :
    (Format.byteWord g).build [b, loByte w, hiByte w] = g b w :=
  congrArg (g b) (joinBytes_lo_hi w)

theorem Format.build_threeWords (g : Word → Word → Word → Instr) (u v w : Word) :
    (Format.threeWords g).build
      [loByte u, hiByte u, loByte v, hiByte v, loByte w, hiByte w] = g u v w := by
  simp [Format.build, joinBytes_lo_hi]

theorem Format.operandLen_mem (f : Format) : f.operandLen ∈ [0, 1, 2, 3, 6] := by
  cases f <;> simp [Format.operandLen]

theorem Format.operandLen_le (f : Format) : f.operandLen ≤ 6 := by
  cases f <;> simp [Format.operandLen]

/-- A layout looks at its own operand bytes alone (30_encoding.md R131). -/
theorem Format.build_take (f : Format) (bs : List Byte) :
    f.build (bs.take f.operandLen) = f.build bs := by
  cases f <;> simp [Format.build, Format.operandLen, List.getD_eq_getElem?_getD]

/-- Bytes after the operand bytes make no difference to the instruction built. -/
theorem Format.build_append {f : Format} {bs : List Byte} (h : bs.length = f.operandLen)
    (rest : List Byte) : f.build (bs ++ rest) = f.build bs := by
  rw [← f.build_take (bs ++ rest), ← h, List.take_left]

/-! ### The decoder -/

/-- What `decode` answers, in one equivalence: enough operand bytes, the instruction they make, and the
bytes after them. -/
theorem decode_cons_eq_ok {op : Byte} {bs rest : List Byte} {i : Instr} :
    decode (op :: bs) = .ok (i, rest) ↔
      (formatOf op).operandLen ≤ bs.length ∧ (formatOf op).build bs = i ∧
        bs.drop (formatOf op).operandLen = rest := by
  rw [decode]
  split
  · next h => simp [Nat.not_le.2 h]
  · next h => simp [Nat.not_lt.1 h]

/-- The undefined opcodes have no operand bytes and stand for themselves (30_encoding.md R159). -/
theorem formatOf_of_mem_undefinedOpcodes {op : Byte} (h : op ∈ undefinedOpcodes) :
    formatOf op = .implied (.undefined op) := by
  fin_cases h <;> rfl

/-! ### Every instruction is built from its own encoding -/

/-- The opcode and the operand bytes of an instruction, read back by the opcode's layout. Where the operand
is a word, its two bytes are joined again; only an undefined opcode has to be checked. -/
theorem exists_build_encode (i : Instr) (hwf : i.wf = true) :
    ∃ op bs, encode i = op :: bs ∧ bs.length = (formatOf op).operandLen ∧
      (formatOf op).build bs = i := by
  cases i with
  | tsbAbs | oraAbs | aslAbs | oraAbsY | trbAbs | oraAbsX | aslAbsX | jsr | bitAbs | andAbs | rolAbs
  | andAbsY | bitAbsX | andAbsX | rolAbsX | jmpAbs | eorAbs | lsrAbs | eorAbsY | eorAbsX | lsrAbsX
  | jmpInd | adcAbs | rorAbs | adcAbsY | jmpIndX | adcAbsX | rorAbsX | styAbs | staAbs | stxAbs
  | staAbsY | stzAbs | staAbsX | stzAbsX | ldyAbs | ldaAbs | ldxAbs | ldaAbsY | ldyAbsX | ldaAbsX
  | ldxAbsY | cpyAbs | cmpAbs | decAbs | cmpAbsY | cmpAbsX | decAbsX | cpxAbs | sbcAbs | incAbs
  | sbcAbsY | sbcAbsX | incAbsX => exact ⟨_, _, rfl, rfl, Format.build_word _ _⟩
  | tstImmAbs | tstImmAbsX => exact ⟨_, _, rfl, rfl, Format.build_byteWord _ _ _⟩
  | tii | tdd | tin | tia | tai => exact ⟨_, _, rfl, rfl, Format.build_threeWords _ _ _ _⟩
  | undefined op =>
    have hop : op ∈ undefinedOpcodes := of_decide_eq_true hwf
    refine ⟨op, [], rfl, ?_⟩
    rw [formatOf_of_mem_undefinedOpcodes hop]
    exact ⟨rfl, rfl⟩
  | _ => exact ⟨_, _, rfl, rfl, rfl⟩

/-- Settles O1: the opcode and the operand bytes build the instruction again, and the bytes after them do
not matter. -/
theorem decodeInvertsEncode : Obligations.DecodeInvertsEncode := by
  intro i rest hwf
  obtain ⟨op, bs, hbytes, hlen, hbuild⟩ := exists_build_encode i hwf
  rw [hbytes, List.cons_append, decode_cons_eq_ok]
  refine ⟨?_, (Format.build_append hlen rest).trans hbuild, ?_⟩
  · simp [hlen]
  · rw [← hlen, List.drop_left]

/-! ### Every opcode's layout is an instruction's encoding -/

/-- What the layout of an opcode builds is well formed and encodes as that opcode and the operand bytes, a
word's low byte first (30_encoding.md R132). -/
inductive Format.Encodes (op : Byte) : Format → Prop
  | implied {i : Instr} (h : i.wf = true ∧ encode i = [op]) : Encodes op (.implied i)
  | byte {g : Byte → Instr} (h : ∀ b, (g b).wf = true ∧ encode (g b) = [op, b]) :
    Encodes op (.byte g)
  | word {g : Word → Instr} (h : ∀ w, (g w).wf = true ∧ encode (g w) = [op, loByte w, hiByte w]) :
    Encodes op (.word g)
  | twoBytes {g : Byte → Byte → Instr}
    (h : ∀ b c, (g b c).wf = true ∧ encode (g b c) = [op, b, c]) : Encodes op (.twoBytes g)
  | byteWord {g : Byte → Word → Instr}
    (h : ∀ b w, (g b w).wf = true ∧ encode (g b w) = [op, b, loByte w, hiByte w]) :
    Encodes op (.byteWord g)
  | threeWords {g : Word → Word → Word → Instr}
    (h : ∀ u v w, (g u v w).wf = true ∧
      encode (g u v w) = [op, loByte u, hiByte u, loByte v, hiByte v, loByte w, hiByte w]) :
    Encodes op (.threeWords g)

/-- Every entry of the opcode map, one by one (30_encoding.md R158). -/
theorem formatOf_encodes (op : Byte) : (formatOf op).Encodes op := by
  suffices h : ∀ n < 256, (formatOf (BitVec.ofNat 8 n)).Encodes (BitVec.ofNat 8 n) by
    simpa using h op.toNat op.isLt
  intro n hn
  interval_cases n <;> (constructor; intros; exact ⟨rfl, rfl⟩)

/-- An instruction built from the operand bytes of its layout encodes as them. -/
theorem Format.Encodes.build {op : Byte} {f : Format} (h : f.Encodes op) {bs : List Byte}
    (hlen : bs.length = f.operandLen) :
    (f.build bs).wf = true ∧ encode (f.build bs) = op :: bs := by
  cases h with
  | implied h =>
    obtain rfl := List.length_eq_zero_iff.1 hlen
    exact h
  | byte h =>
    match bs, hlen with
    | [b], _ => exact h b
  | word h =>
    match bs, hlen with
    | [lo, hi], _ =>
      simpa [Format.build, loByte_joinBytes, hiByte_joinBytes] using h (joinBytes lo hi)
  | twoBytes h =>
    match bs, hlen with
    | [b, c], _ => exact h b c
  | byteWord h =>
    match bs, hlen with
    | [b, lo, hi], _ =>
      simpa [Format.build, loByte_joinBytes, hiByte_joinBytes] using h b (joinBytes lo hi)
  | threeWords h =>
    match bs, hlen with
    | [lo, hi, lo', hi', lo'', hi''], _ =>
      simpa [Format.build, loByte_joinBytes, hiByte_joinBytes] using
        h (joinBytes lo hi) (joinBytes lo' hi') (joinBytes lo'' hi'')

/-- Whatever decodes is well formed, and its encoding is the bytes taken. -/
theorem encode_of_decode {bytes rest : List Byte} {i : Instr} (h : decode bytes = .ok (i, rest)) :
    i.wf = true ∧ encode i ++ rest = bytes := by
  cases bytes with
  | nil => cases h
  | cons op bs =>
    obtain ⟨hlen, rfl, rfl⟩ := decode_cons_eq_ok.1 h
    have hbuild := (formatOf_encodes op).build (bs := bs.take (formatOf op).operandLen) (by simpa)
    rw [Format.build_take] at hbuild
    obtain ⟨hwf, hencode⟩ := hbuild
    exact ⟨hwf, by rw [hencode, List.cons_append, List.take_append_drop]⟩

/-- The undefined instruction comes from the undefined opcodes alone (30_encoding.md R159). -/
theorem build_eq_undefined_iff (op : Byte) {bs : List Byte}
    (hlen : (formatOf op).operandLen ≤ bs.length) :
    (formatOf op).build bs = .undefined op ↔ op ∈ undefinedOpcodes := by
  constructor
  · intro h
    obtain ⟨hwf, -⟩ := encode_of_decode (decode_cons_eq_ok.2 ⟨hlen, h, rfl⟩)
    exact of_decide_eq_true hwf
  · intro h
    rw [formatOf_of_mem_undefinedOpcodes h]
    rfl

/-- Settles O2: six bytes are enough for every layout, and each layout's instruction encodes as the bytes
it was built from. -/
theorem decodeIsTotalAndFaithful : Obligations.DecodeIsTotalAndFaithful := by
  refine ⟨rfl, fun op a b c d e f => ?_, fun _ _ _ => encode_of_decode⟩
  have hlen : (formatOf op).operandLen ≤ [a, b, c, d, e, f].length := (formatOf op).operandLen_le
  exact ⟨_, _, (formatOf op).operandLen_mem, decode_cons_eq_ok.2 ⟨hlen, rfl, rfl⟩,
    build_eq_undefined_iff op hlen⟩

/-- Settles O3, by running the decoder on the nine words. -/
theorem mapWordsDecode : Obligations.MapWordsDecode :=
  ⟨rfl, rfl, rfl, rfl, rfl, rfl, rfl, rfl, rfl⟩

end Sys2Proof
end

section
/-! PROOFS. The step of a fetched instruction (30_encoding.md R137, 60_exceptions.md R460). -/

namespace Sys2Proof.Machine

variable {s : State}

/-- Bytes that are the whole encoding of an instruction are as many as the fetch takes. -/
theorem fetchInstr_of_decode {i : Instr} {n : Nat} (h : decode (fetchBytes n s).1 = .ok (i, [])) :
    fetchInstr s = (i, (fetchBytes n s).2) := by
  cases n with
  | zero => cases h
  | succ n =>
    obtain ⟨hle, hbuild, hdrop⟩ := decode_cons_eq_ok.1 h
    have hge := List.drop_eq_nil_iff.1 hdrop
    rw [fetchBytes_length] at hle hge
    obtain rfl := Nat.le_antisymm hle hge
    exact Prod.ext hbuild rfl

/-- A running CPU with nothing to take first runs an instruction (60_exceptions.md R460). -/
theorem step_of_running (hrun : s.cpu.runState = .running)
    (hnone : s.cpu.afterSet = true ∨ chosen s = none) :
    step s = instrStep { s with psgWrites := [] } := by
  have hself : { s.cpu with runState := .running } = s.cpu := by rw [← hrun]
  have hchosen : chosen { s with psgWrites := [] } = chosen s := rfl
  simp only [step, hrun, hself, hchosen]
  obtain hset | hsource := hnone
  · simp only [hset]
  · rw [hsource]
    cases s.cpu.afterSet <;> rfl

/-- Settles O4: the step is the instruction step, whose fetch takes exactly the bytes decoded. -/
theorem stepRunsDecodedInstruction : Obligations.StepRunsDecodedInstruction := by
  intro s i n hrun hnone hdecode
  have hstep := step_of_running hrun hnone
  rw [instrStep, fetchInstr_of_decode hdecode] at hstep
  exact hstep

end Sys2Proof.Machine
end

section
/-! PROOFS. Bit-test branches and jumps (42_control.md R269-R273). -/

namespace Sys2Proof.Machine

/-! ### BBRi and BBSi -/

/-- A relative target as an integer sum (30_encoding.md R154). -/
theorem relTarget_eq (pcNext : Word) (rr : Byte) :
    relTarget pcNext rr = pcNext + BitVec.ofInt 16 rr.toInt := rfl

/-- The high byte of an address is its 256-byte page. -/
theorem hiByte_eq_iff (a b : Word) : hiByte a = hiByte b ↔ a.toNat / 256 = b.toNat / 256 := by
  simp [hiByte, BitVec.toNat_eq, Nat.shiftRight_eq_div_pow]
  omega

/-- The page penalty, by the pages of the next instruction and the target (42_control.md R270). -/
theorem pagePenalty_eq (s : State) (target : Word) :
    pagePenalty s target =
      if decide (s.cpu.pc.toNat / 256 ≠ target.toNat / 256) then s.params.bbxPagePenalty else 0 := by
  simp only [pagePenalty, hiByte_eq_iff, decide_eq_true_eq, ite_not]

/-- A bit-test branch as one read and one new PC (42_control.md R270, R271). -/
theorem bitBranch_eq (k : Nat) (b : Bool) (zz rr : Byte) (s : State) :
    let m := memRead (0x2000 + zz.zeroExtend 16) s
    let taken := m.1.getLsbD k == b
    let target := s.cpu.pc + BitVec.ofInt 16 rr.toInt
    let cross := decide (s.cpu.pc.toNat / 256 ≠ target.toNat / 256)
    bitBranch k b zz rr s =
      .next { m.2 with
        cycles :=
          if taken then
            s.params.cyc.bitBranchTaken + (if cross then s.params.bbxPagePenalty else 0)
          else s.params.cyc.bitBranch
        cpu :=
          { s.cpu with
            pc := if taken then target else s.cpu.pc
            p := { s.cpu.p with t := false }, afterSet := false } } := by
  intro m taken target cross
  have hcpu : m.2.cpu = s.cpu := memRead_cpu s _
  have hparams : m.2.params = s.params := memRead_params s _
  have hread : zpRead zz s = m := by rw [zpRead, zpAddr_eq]
  simp only [bitBranch, hread, hcpu, hparams, relTarget_eq, pagePenalty_eq, finish]
  by_cases htaken : m.1.getLsbD k = b
  · simp [taken, htaken, State.endWith, State.setPc, hcpu, hparams, cross, target]
  · simp [taken, htaken, State.endWith, hcpu, hparams]

/-- Each of the sixteen is the shared branch on its bit. -/
theorem exec_of_mem_bitBranchForms {zz rr : Byte} {i : Instr} {k : Nat} {b : Bool}
    (h : (i, k, b) ∈ bitBranchForms zz rr) (s : State) : exec i s = bitBranch k b zz rr s := by
  fin_cases h <;> rfl

/-- Settles O33: each of the sixteen is the shared branch, whose one access is a read. -/
theorem bitTestBranches : Obligations.BitTestBranches := by
  intro zz rr s i k b hform m taken target cross
  have hreads : ReadsOnly s m.2 := memRead_readsOnly _ s
  exact ⟨(exec_of_mem_bitBranchForms hform s).trans (bitBranch_eq k b zz rr s), hreads,
    hreads.memoryKept⟩

/-! ### Jumps -/

/-- Settles O34: BRA and JMP hhll write PC alone; the two pointer forms are the shared jump on their
pointer's address. -/
theorem jumpTargets : Obligations.JumpTargets := by
  intro rr hhll p s done lo hi
  have hreads : ReadsOnly s hi.2 := read16_readsOnly p s
  have hthrough : jumpThrough p s = done hi.2 s.params.cyc.jmpInd (hi.1 ++ lo.1) := by
    simp only [jumpThrough, finish, State.endWith, State.setPc, read16_cpu]
    rfl
  refine ⟨rfl, rfl, ?_, ?_, hreads, hreads.memoryKept⟩
  · rintro rfl
    exact hthrough
  · rintro rfl
    exact hthrough

end Sys2Proof.Machine
end

section
/-! PROOFS. Loads, stores, transfers, swaps and clears (40_load_store.md R161-R179). -/

namespace Sys2Proof.Machine

/-- An instruction that ends by taking N and Z from v: the flags but N, Z and T stay (10_state.md R36,
00_scope.md R14). -/
theorem finish_setNZ (c : Nat) (v : Byte) (s : State) :
    finish c (s.setNZ v) =
      .next { s with
        cycles := c
        cpu :=
          { s.cpu with
            p := { s.cpu.p with n := decide (128 ≤ v.toNat), z := decide (v = 0), t := false }
            afterSet := false } } := by
  rw [State.setNZ, Flags.setNZ_eq]
  rfl

/-! ### Transfers, swaps and clears -/

/-- Settles O19: the transfers but TXS end by `finish_setNZ` on the state with the register written; the
rest write registers alone. -/
theorem transfersSwapsAndClears : Obligations.TransfersSwapsAndClears := by
  intro s p nz done
  refine ⟨?tax, ?tay, ?txa, ?tya, ?tsx, rfl, rfl, rfl, rfl, rfl, rfl, rfl⟩
  case tax => exact finish_setNZ _ _ (s.setX s.cpu.a)
  case tay => exact finish_setNZ _ _ (s.setY s.cpu.a)
  case txa => exact finish_setNZ _ _ (s.setA s.cpu.x)
  case tya => exact finish_setNZ _ _ (s.setA s.cpu.y)
  case tsx => exact finish_setNZ _ _ (s.setX s.cpu.sp)

/-! ### Loads -/

section Loads

variable {nn zz : Byte} {hhll : Word} {f : Instr × Operand}

/-- Each form of LDA is the shared load into A (40_load_store.md R161). -/
theorem exec_of_mem_ldaForms (h : f ∈ ldaForms nn zz hhll) (s : State) :
    exec f.1 s = loadWith State.setA f.2 s := by
  fin_cases h <;> rfl

/-- Each form of LDX is the shared load into X (40_load_store.md R162). -/
theorem exec_of_mem_ldxForms (h : f ∈ ldxForms nn zz hhll) (s : State) :
    exec f.1 s = loadWith State.setX f.2 s := by
  fin_cases h <;> rfl

/-- Each form of LDY is the shared load into Y (40_load_store.md R163). -/
theorem exec_of_mem_ldyForms (h : f ∈ ldyForms nn zz hhll) (s : State) :
    exec f.1 s = loadWith State.setY f.2 s := by
  fin_cases h <;> rfl

end Loads

/-- A load through a register write that gives the CPU r and leaves the flags to N and Z: reading the
operand touches no register, so r is over the CPU before the read. -/
theorem loadWith_eq {put : State → Byte → State} {o : Operand} {s : State} {r : Cpu}
    (hput : put (readOperand o s).2 (readOperand o s).1 = { (readOperand o s).2 with cpu := r })
    (hflags : r.p = s.cpu.p) :
    let m := readOperand o s
    loadWith put o s =
      .next { m.2 with
        cycles := o.cost s.params.cyc
        cpu :=
          { r with
            p := { s.cpu.p with
              n := decide (128 ≤ m.1.toNat), z := decide (m.1 = 0), t := false }
            afterSet := false } } := by
  intro m
  rw [loadWith, hput, finish_setNZ, hflags]

/-- Settles O17: each form is the shared load into its register, and its only accesses are the operand
reads. -/
theorem loadsTakeOperand : Obligations.LoadsTakeOperand := by
  intro nn zz hhll s f m p c
  have hcpu : m.2.cpu = s.cpu := readOperand_cpu s f.2
  have hreads : ReadsOnly s m.2 := readOperand_readsOnly f.2 s
  refine ⟨rfl, rfl, rfl, fun h => ?lda, fun h => ?ldx, fun h => ?ldy, hreads, hreads.memoryKept⟩
  case lda =>
    rw [exec_of_mem_ldaForms h s]
    exact loadWith_eq (r := { s.cpu with a := m.1 }) (by rw [State.setA, hcpu]) rfl
  case ldx =>
    rw [exec_of_mem_ldxForms h s]
    exact loadWith_eq (r := { s.cpu with x := m.1 }) (by rw [State.setX, hcpu]) rfl
  case ldy =>
    rw [exec_of_mem_ldyForms h s]
    exact loadWith_eq (r := { s.cpu with y := m.1 }) (by rw [State.setY, hcpu]) rfl

/-! ### Stores -/

/-- The state after a store of v: the address's pointer reads, one write, and the end of the
instruction. -/
def stored (m : Addr) (v : Byte) (s : State) : State :=
  { memWrite (ea m s).1 v (ea m s).2 with
    cycles := m.cost s.params.cyc
    cpu := { s.cpu with p := { s.cpu.p with t := false }, afterSet := false } }

theorem storeValue_eq (m : Addr) (v : Byte) (s : State) :
    storeValue m v s = .next (stored m v s) := by
  simp only [storeValue, storeAt, finish, State.endWith, memWrite_cpu, ea_cpu, stored]

/-- The pointer reads move no place and change no byte, so a store changes one byte at most, the one its
effective address leads to at the start. -/
theorem stored_memoryKeptBut (m : Addr) (v : Byte) (s : State) :
    MemoryKeptBut [s.place (ea m s).1] s (stored m v s) :=
  ((ea_readsOnly m s).memoryKeptBut_memWrite _ v).congr rfl rfl rfl rfl

section Stores

variable {zz : Byte} {hhll : Word} {f : Instr × Addr}

/-- Each form of STA stores A (40_load_store.md R164). -/
theorem exec_of_mem_staForms (h : f ∈ staForms zz hhll) (s : State) :
    exec f.1 s = storeValue f.2 s.cpu.a s := by
  fin_cases h <;> rfl

/-- Each form of STX stores X (40_load_store.md R165). -/
theorem exec_of_mem_stxForms (h : f ∈ stxForms zz hhll) (s : State) :
    exec f.1 s = storeValue f.2 s.cpu.x s := by
  fin_cases h <;> rfl

/-- Each form of STY stores Y (40_load_store.md R166). -/
theorem exec_of_mem_styForms (h : f ∈ styForms zz hhll) (s : State) :
    exec f.1 s = storeValue f.2 s.cpu.y s := by
  fin_cases h <;> rfl

/-- Each form of STZ stores $00 (40_load_store.md R167). -/
theorem exec_of_mem_stzForms (h : f ∈ stzForms zz hhll) (s : State) :
    exec f.1 s = storeValue f.2 0x00 s := by
  fin_cases h <;> rfl

end Stores

/-- Settles O18: each form is the shared store of its register or of $00, whose one write comes after the
pointer reads of its address. -/
theorem storesWriteOneByte : Obligations.StoresWriteOneByte := by
  refine ⟨fun zz hhll => ⟨rfl, rfl, rfl, rfl⟩, fun zz hhll s f v hform => ?_⟩
  suffices hexec : exec f.1 s = storeValue f.2 v s from
    ⟨hexec.trans (storeValue_eq f.2 v s), stored_memoryKeptBut f.2 v s⟩
  obtain ⟨h, rfl⟩ | ⟨h, rfl⟩ | ⟨h, rfl⟩ | ⟨h, rfl⟩ := hform
  · exact exec_of_mem_staForms h s
  · exact exec_of_mem_stxForms h s
  · exact exec_of_mem_styForms h s
  · exact exec_of_mem_stzForms h s

end Sys2Proof.Machine
end

section
/-! PROOFS. The arithmetic and logic that keeps one operand: counts, compares, bit tests, read-modify-write
and the zero-page bit writes (41_alu.md R211-R229). -/

namespace Sys2Proof.Machine

/-- An instruction that ends by writing P: T is cleared whatever was written to it (10_state.md R36). -/
theorem finish_setP (c : Nat) (f : Flags) (s : State) :
    finish c (s.setP f) =
      .next { s with
        cycles := c, cpu := { s.cpu with p := { f with t := false }, afterSet := false } } := rfl

/-! ### Index registers -/

/-- Settles O29: each of the four ends by `finish_setNZ` on the state with the register counted; a count
down by 1 is a count up by 255. -/
theorem indexRegistersCount : Obligations.IndexRegistersCount := by
  intro s p done up down
  have hup (b : Byte) : b + 1 = up b := by
    apply BitVec.eq_of_toNat_eq
    simp [up]
  have hdown (b : Byte) : b - 1 = down b := by
    apply BitVec.eq_of_toNat_eq
    simp [down, BitVec.toNat_sub, Nat.add_comm]
  refine ⟨?inx, ?iny, ?dex, ?dey, rfl, rfl, rfl, rfl⟩
  case inx => rw [← hup]; exact finish_setNZ _ _ (s.setX (s.cpu.x + 1))
  case iny => rw [← hup]; exact finish_setNZ _ _ (s.setY (s.cpu.y + 1))
  case dex => rw [← hdown]; exact finish_setNZ _ _ (s.setX (s.cpu.x - 1))
  case dey => rw [← hdown]; exact finish_setNZ _ _ (s.setY (s.cpu.y - 1))

/-! ### Compares -/

/-- The flags of a compare as comparisons: N is bit 7 of the difference mod 256 (41_alu.md R211). -/
theorem Flags.compare_eq (f : Flags) (r m : Byte) :
    f.compare r m =
      { f with
        n := decide (128 ≤ (r.toNat + 256 - m.toNat) % 256), z := decide (r = m)
        c := decide (m.toNat ≤ r.toNat) } := by
  have hdiff : (r - m).toNat = (r.toNat + 256 - m.toNat) % 256 := by
    rw [BitVec.toNat_sub]
    omega
  rw [Flags.compare, msb_eq, hdiff]
  rfl

/-- A compare reads its operand and writes flags (41_alu.md R211-R213). -/
theorem compareWith_eq (r : Byte) (o : Operand) (s : State) :
    let m := readOperand o s
    compareWith r o s =
      .next { m.2 with
        cycles := o.cost s.params.cyc
        cpu :=
          { s.cpu with
            afterSet := false
            p :=
              { s.cpu.p with
                n := decide (128 ≤ (r.toNat + 256 - m.1.toNat) % 256)
                z := decide (r = m.1), c := decide (m.1.toNat ≤ r.toNat), t := false } } } := by
  simp only [compareWith, finish_setP, readOperand_cpu, Flags.compare_eq]

section Compares

variable {nn zz : Byte} {hhll : Word} {f : Instr × Operand}

/-- Each form of CMP compares A (41_alu.md R211). -/
theorem exec_of_mem_cmpForms (h : f ∈ cmpForms nn zz hhll) (s : State) :
    exec f.1 s = compareWith s.cpu.a f.2 s := by
  fin_cases h <;> rfl

/-- Each form of CPX compares X (41_alu.md R212). -/
theorem exec_of_mem_cpxForms (h : f ∈ cpxForms nn zz hhll) (s : State) :
    exec f.1 s = compareWith s.cpu.x f.2 s := by
  fin_cases h <;> rfl

/-- Each form of CPY compares Y (41_alu.md R213). -/
theorem exec_of_mem_cpyForms (h : f ∈ cpyForms nn zz hhll) (s : State) :
    exec f.1 s = compareWith s.cpu.y f.2 s := by
  fin_cases h <;> rfl

end Compares

/-- Settles O26: each form is the shared compare of its register, whose only accesses are the operand
reads. -/
theorem comparesSetFlags : Obligations.ComparesSetFlags := by
  refine ⟨fun nn zz hhll => ⟨rfl, rfl, rfl⟩, ?_⟩
  intro nn zz hhll s f r hform m
  have hreads : ReadsOnly s m.2 := readOperand_readsOnly f.2 s
  suffices hexec : exec f.1 s = compareWith r f.2 s from
    ⟨hexec.trans (compareWith_eq r f.2 s), hreads, hreads.memoryKept⟩
  obtain ⟨h, rfl⟩ | ⟨h, rfl⟩ | ⟨h, rfl⟩ := hform
  · exact exec_of_mem_cmpForms h s
  · exact exec_of_mem_cpxForms h s
  · exact exec_of_mem_cpyForms h s

/-! ### Bit tests -/

/-- Bit 7 of a byte as a comparison. -/
theorem getLsbD_seven (b : Byte) : b.getLsbD 7 = decide (128 ≤ b.toNat) := by
  revert b
  decide

/-- Bit 6 of a byte as a comparison. -/
theorem getLsbD_six (b : Byte) : b.getLsbD 6 = decide (64 ≤ b.toNat % 128) := by
  revert b
  decide

/-- The flags of BIT and TST as comparisons (41_alu.md R214, R215). -/
theorem Flags.bitTest_eq (f : Flags) (mask m : Byte) :
    f.bitTest mask m =
      { f with
        n := decide (128 ≤ m.toNat), v := decide (64 ≤ m.toNat % 128)
        z := decide (mask &&& m = 0) } := by
  rw [Flags.bitTest, getLsbD_seven, getLsbD_six]
  rfl

/-- The end that BIT and TST share: the operand read, then the flags, at either's cost (41_alu.md R214,
R215). -/
theorem finish_bitTest (cost : Nat) (mask : Byte) (o : Operand) (s : State) :
    let m := readOperand o s
    finish cost (m.2.setP (m.2.cpu.p.bitTest mask m.1)) =
      .next { m.2 with
        cycles := cost
        cpu :=
          { s.cpu with
            afterSet := false
            p :=
              { s.cpu.p with
                n := decide (128 ≤ m.1.toNat), v := decide (64 ≤ m.1.toNat % 128)
                z := decide (mask &&& m.1 = 0), t := false } } } := by
  simp only [finish_setP, readOperand_cpu, Flags.bitTest_eq]

/-- Each form of BIT masks by A (41_alu.md R214). -/
theorem exec_of_mem_bitForms {nn zz : Byte} {hhll : Word} {i : Instr} {o : Operand}
    (h : (i, o) ∈ bitForms nn zz hhll) (s : State) : exec i s = bitWith s.cpu.a o s := by
  fin_cases h <;> rfl

/-- Each form of TST masks by its immediate (41_alu.md R215). -/
theorem exec_of_mem_tstForms {nn zz : Byte} {hhll : Word} {i : Instr} {a : Addr}
    (h : (i, a) ∈ tstForms nn zz hhll) (s : State) : exec i s = tstWith nn a s := by
  fin_cases h <;> rfl

/-- Settles O27: each form is the shared bit test of its mask, whose only accesses are the operand
reads. -/
theorem bitTestsSetFlags : Obligations.BitTestsSetFlags := by
  intro nn zz hhll s i o mask cost hform m
  have hreads : ReadsOnly s m.2 := readOperand_readsOnly o s
  suffices hexec : exec i s = finish cost (m.2.setP (m.2.cpu.p.bitTest mask m.1)) from
    ⟨hexec.trans (finish_bitTest cost mask o s), hreads, hreads.memoryKept⟩
  obtain ⟨h, rfl, rfl⟩ | ⟨a, h, rfl, rfl, rfl⟩ := hform
  · exact exec_of_mem_bitForms h s
  · exact exec_of_mem_tstForms h s

/-! ### One read and one write of the same byte -/

/-- The state after an instruction that writes r back to a, with P and the cost as given: u is the state
after its reads. -/
def writtenBack (a : Word) (r : Byte) (cost : Nat) (p : Flags) (s u : State) : State :=
  { memWrite a r u with
    cycles := cost, cpu := { s.cpu with p := { p with t := false }, afterSet := false } }

/-- The reads move no place and change no byte, so a write back changes one byte at most, the one its
address leads to at the start. -/
theorem writtenBack_memoryKeptBut {s u : State} (h : ReadsOnly s u) (a : Word) (r : Byte) (cost : Nat)
    (p : Flags) : MemoryKeptBut [s.place a] s (writtenBack a r cost p s u) :=
  (h.memoryKeptBut_memWrite a r).congr rfl rfl rfl rfl

/-- The read at an effective address, after the pointer reads it takes. -/
theorem readAtEa_readsOnly (m : Addr) (s : State) :
    ReadsOnly s (memRead (ea m s).1 (ea m s).2).2 := readOperand_readsOnly (.mem m) s

/-! ### TSB and TRB -/

/-- Where TSB_TRB_NV takes N and V from: the byte m before, the byte r after, or the flags f themselves
(41_alu.md R216). -/
def Flags.chooseNV (f : Flags) (nv : TsbTrbNv) (m r : Byte) : Bool × Bool :=
  match nv with
  | .operand => (m.getLsbD 7, m.getLsbD 6)
  | .result => (r.getLsbD 7, r.getLsbD 6)
  | .unchanged => (f.n, f.v)

/-- The flags of TSB and TRB in one record: the parameter chooses N and V alone (41_alu.md R216,
R217). -/
theorem Flags.testSet_eq (f : Flags) (nv : TsbTrbNv) (a m r : Byte) :
    f.testSet nv a m r =
      { f with
        n := (f.chooseNV nv m r).1, v := (f.chooseNV nv m r).2, z := decide (a &&& m = 0) } := by
  cases nv <;> rfl

/-- TSB and TRB as one write back (41_alu.md R216, R217). -/
theorem testSet_eq (g : Byte → Byte → Byte) (a : Addr) (s : State) :
    let e := ea a s
    let m := memRead e.1 e.2
    let r := g s.cpu.a m.1
    let nv := s.cpu.p.chooseNV s.params.tsbTrbNv m.1 r
    testSet g a s =
      .next (writtenBack e.1 r (a.rmwCost s.params.cyc)
        { s.cpu.p with n := nv.1, v := nv.2, z := decide (s.cpu.a &&& m.1 = 0) } s m.2) := by
  simp only [testSet, finish_setP, memWrite_cpu, memRead_cpu, ea_cpu, Flags.testSet_eq, writtenBack]

/-- The byte TSB and TRB write back (41_alu.md R216, R217). -/
def testSetByte (set : Bool) (a m : Byte) : Byte := if set then m ||| a else m &&& ~~~a

/-- Each form of TSB and TRB is the shared operation on its byte. -/
theorem exec_of_mem_testSetForms {zz : Byte} {hhll : Word} {set : Bool} {f : Instr × Addr}
    (h : f ∈ (if set then [(.tsbZp zz, .zp zz), (.tsbAbs hhll, .abs hhll)]
      else [(.trbZp zz, .zp zz), (.trbAbs hhll, .abs hhll)])) (s : State) :
    exec f.1 s = testSet (testSetByte set) f.2 s := by
  cases set <;> fin_cases h <;> rfl

/-- Settles O28: each form is the shared test and set, a write back after one read at its effective
address. -/
theorem testAndSetOrReset : Obligations.TestAndSetOrReset := by
  intro zz hhll s f set h e m r nv t
  have hreads : ReadsOnly s m.2 := readAtEa_readsOnly f.2 s
  exact ⟨(exec_of_mem_testSetForms h s).trans (testSet_eq _ f.2 s), hreads,
    writtenBack_memoryKeptBut hreads e.1 r t.cycles t.cpu.p⟩

/-! ### Counts, shifts and rotates -/

/-- The flags of a read-modify-write: N and Z of its result, C its own, V, D, I and T as they were
(41_alu.md R218, R219, R224-R227). -/
theorem RmwOp.apply_flags (op : RmwOp) (m : Byte) (f : Flags) :
    let r := op.apply m f
    r.2 = { f with n := decide (128 ≤ r.1.toNat), z := decide (r.1 = 0), c := r.2.c } := by
  cases op <;> exact Flags.setNZ_eq _ _

/-- Bit 0 of a byte as its parity. -/
theorem getLsbD_zero_eq (b : Byte) : b.getLsbD 0 = decide (b.toNat % 2 = 1) := by
  revert b
  decide

/-- The result and carry of a read-modify-write are those of its arithmetic (41_alu.md R218, R219,
R224-R227). -/
theorem RmwOp.apply_computes (op : RmwOp) (m : Byte) (f : Flags) :
    op.Computes m f.c (op.apply m f).1 (op.apply m f).2.c := by
  have hm : m.toNat < 256 := m.isLt
  have rotateLeft : ∀ (m : Byte) (c : Bool),
      (m <<< 1 ||| (BitVec.ofBool c).zeroExtend 8).toNat = (2 * m.toNat + c.toNat) % 256 := by decide
  have rotateRight : ∀ (m : Byte) (c : Bool),
      (m >>> 1 ||| (BitVec.ofBool c).zeroExtend 8 <<< 7).toNat = m.toNat / 2 + 128 * c.toNat := by
    decide
  cases op with
  | inc => exact ⟨BitVec.toNat_add m 1, rfl⟩
  | dec =>
    refine ⟨?_, rfl⟩
    rw [Nat.add_comm]
    exact BitVec.toNat_sub m 1
  | asl =>
    refine ⟨?_, getLsbD_seven m⟩
    simp [RmwOp.apply, Nat.shiftLeft_eq, Nat.mul_comm]
  | lsr => exact ⟨rfl, getLsbD_zero_eq m⟩
  | rol => exact ⟨rotateLeft m f.c, getLsbD_seven m⟩
  | ror => exact ⟨rotateRight m f.c, getLsbD_zero_eq m⟩

/-- A read-modify-write of memory as one write back (41_alu.md R200). -/
theorem rmwMem_eq (op : RmwOp) (a : Addr) (s : State) :
    let e := ea a s
    let m := memRead e.1 e.2
    let r := op.apply m.1 s.cpu.p
    rmwMem op a s = .next (writtenBack e.1 r.1 (a.rmwCost s.params.cyc) r.2 s m.2) := by
  simp only [rmwMem, finish_setP, memWrite_cpu, memRead_cpu, ea_cpu, writtenBack]

/-- Each accumulator form is the shared operation on A. -/
theorem exec_accForm (op : RmwOp) (s : State) : exec op.accForm s = rmwA op s := by
  cases op <;> rfl

/-- Each memory form is the shared operation on its operand. -/
theorem exec_of_mem_rmwForms {op : RmwOp} {zz : Byte} {hhll : Word} {f : Instr × Addr}
    (h : f ∈ op.forms zz hhll) (s : State) : exec f.1 s = rmwMem op f.2 s := by
  cases op <;> fin_cases h <;> rfl

/-- Settles O30: the accumulator form changes A and the flags, a memory form is a write back after one
read; result and flags are those of `RmwOp.apply` in both. -/
theorem countsShiftsAndRotates : Obligations.CountsShiftsAndRotates := by
  intro op zz hhll s p
  refine ⟨by cases op <;> rfl, ?acc, fun f h => ?mem⟩
  case acc =>
    refine ⟨_, _, op.apply_computes s.cpu.a s.cpu.p, ?_⟩
    rw [exec_accForm, rmwA, finish_setP, op.apply_flags]
    rfl
  case mem =>
    intro e m
    have hreads : ReadsOnly s m.2 := readAtEa_readsOnly f.2 s
    have hexec := (exec_of_mem_rmwForms h s).trans (rmwMem_eq op f.2 s)
    rw [op.apply_flags] at hexec
    refine ⟨_, _, _, op.apply_computes m.1 s.cpu.p, rfl, hexec, hreads, ?_⟩
    exact writtenBack_memoryKeptBut hreads e.1 _ _ (p _ _)

/-! ### RMBi and SMBi -/

/-- A byte with bit k replaced by b (41_alu.md R228, R229). -/
def withBit (k : Nat) (b : Bool) (m : Byte) : Byte := if b then setBit m k else clearBit m k

/-- Bit j of the byte with one bit alone set. -/
theorem getLsbD_one_shiftLeft {j : Nat} (hj : j < 8) (k : Nat) :
    (1#8 <<< k).getLsbD j = decide (j = k) := by
  have htwo : (1#8 <<< k).getLsbD j = (decide (k < 8) && decide (k = j)) := BitVec.getLsbD_twoPow k j
  rw [htwo, ← Bool.decide_and]
  exact decide_eq_decide.2 (by omega)

theorem getLsbD_withBit {j : Nat} (hj : j < 8) (k : Nat) (b : Bool) (m : Byte) :
    (withBit k b m).getLsbD j = if j = k then b else m.getLsbD j := by
  cases b with
  | false =>
    show (m &&& ~~~(1#8 <<< k)).getLsbD j = _
    rw [BitVec.getLsbD_and, BitVec.getLsbD_not, getLsbD_one_shiftLeft hj]
    by_cases h : j = k <;> simp [h, hj]
  | true =>
    show (m ||| 1#8 <<< k).getLsbD j = _
    rw [BitVec.getLsbD_or, getLsbD_one_shiftLeft hj]
    by_cases h : j = k <;> simp [h]

/-- A zero-page bit write as one write back (41_alu.md R228, R229). -/
theorem zpBit_eq (g : Byte → Byte) (zz : Byte) (s : State) :
    let a := 0x2000 + zz.zeroExtend 16
    let m := memRead a s
    zpBit g zz s = .next (writtenBack a (g m.1) s.params.cyc.bitOp s.cpu.p s m.2) := by
  simp only [zpBit, finish, State.endWith, zpRead, zpWrite, zpAddr_eq, memWrite_cpu, memRead_cpu,
    writtenBack]

/-- Each of the sixteen is the shared write of its bit. -/
theorem exec_of_mem_zpBitForms {zz : Byte} {i : Instr} {k : Nat} {b : Bool}
    (h : (i, k, b) ∈ zpBitForms zz) (s : State) : exec i s = zpBit (withBit k b) zz s := by
  fin_cases h <;> rfl

/-- Settles O31: each of the sixteen is a write back of the byte with its bit replaced. -/
theorem zeroPageBitWrites : Obligations.ZeroPageBitWrites := by
  intro zz s i k b hform a m
  have hreads : ReadsOnly s m.2 := memRead_readsOnly a s
  exact ⟨withBit k b m.1, _, fun j hj => getLsbD_withBit hj k b m.1, rfl,
    (exec_of_mem_zpBitForms hform s).trans (zpBit_eq _ zz s), hreads,
    writtenBack_memoryKeptBut hreads _ _ _ _⟩

end Sys2Proof.Machine
end

section
/-! PROOFS. The operations T-mode can redirect: binary and decimal ADC and SBC, AND, ORA and EOR, into A
and into the zero-page byte at X (41_alu.md R201-R210). -/

namespace Sys2Proof.Machine

/-! ### What the five operations touch -/

/-- An operation on an accumulator operand touches P and the draw counter alone, and of the CPU it looks
at P alone. -/
theorem AluOp.apply_withCpu (op : AluOp) (acc m : Byte) {s : State} {c : Cpu} (hp : c.p = s.cpu.p) :
    let r := op.apply acc m s
    op.apply acc m { s with cpu := c } =
      (r.1, { s with draws := r.2.draws, cpu := { c with p := r.2.cpu.p } }) := by
  have hadd (sub : Bool) :
      let r := addOp sub acc m s
      addOp sub acc m { s with cpu := c } =
        (r.1, { s with draws := r.2.draws, cpu := { c with p := r.2.cpu.p } }) := by
    unfold addOp decimalResult
    by_cases hd : s.cpu.p.d
    · simp only [hp, hd, if_true]
      split <;> simp only [State.draw, State.setP, hp]
    · simp only [hp, hd]
      rfl
  cases op with
  | adc => exact hadd false
  | sbc => exact hadd true
  | and | ora | eor => simp only [AluOp.apply, logicOp, State.setNZ, State.setP, hp]

theorem AluOp.apply_snd (op : AluOp) (acc m : Byte) (s : State) :
    let r := (op.apply acc m s).2
    r = { s with draws := r.draws, cpu := { s.cpu with p := r.cpu.p } } :=
  congrArg Prod.snd (op.apply_withCpu acc m (s := s) rfl)

/-- Each form of the five operations is the shared one on its operand (41_alu.md R206-R210). -/
theorem exec_of_mem_aluForms {op : AluOp} {nn zz : Byte} {hhll : Word} {f : Instr × Operand}
    (h : f ∈ op.forms nn zz hhll) (s : State) : exec f.1 s = execAlu op f.2 s := by
  cases op <;> fin_cases h <;> rfl

theorem exec_immForm (op : AluOp) (b : Byte) (s : State) :
    exec (op.immForm b) s = execAlu op (.imm b) s := by
  cases op <;> rfl

/-- An operation into A: the operand m read, then A, P and the draw counter from the operation on A and
m (41_alu.md R205). -/
theorem execAlu_normal {op : AluOp} {o : Operand} {s : State} {m r : Byte × State}
    (h : tModeApplies o s = false) (hm : readOperand o s = m)
    (hr : op.apply s.cpu.a m.1 m.2 = r) :
    execAlu op o s =
      .next { m.2 with
        cycles := o.cost s.params.cyc + op.extra s
        draws := r.2.draws
        cpu := { s.cpu with a := r.1, p := { r.2.cpu.p with t := false }, afterSet := false } } := by
  have hcpu : m.2.cpu = s.cpu := by rw [← hm, readOperand_cpu]
  have hstate : r.2 = { m.2 with draws := r.2.draws, cpu := { s.cpu with p := r.2.cpu.p } } := by
    rw [← hr, ← hcpu]
    exact op.apply_snd _ m.1 m.2
  have hA : aluOnA op o s = { m.2 with
      draws := r.2.draws, cpu := { s.cpu with a := r.1, p := r.2.cpu.p } } := by
    simp only [aluOnA, hm, hcpu, hr]
    rw [hstate]
    rfl
  rw [execAlu, if_neg (by simp [h]), hA]
  rfl

/-! ### AND, ORA and EOR -/

/-- A logic operation leaves C, V and the draw counter alone (41_alu.md R208-R210). -/
theorem execAlu_logic {op : AluOp} {o : Operand} {s : State} {b : Byte}
    (h : tModeApplies o s = false) (hextra : op.extra s = 0)
    (hop : op.apply s.cpu.a (readOperand o s).1 (readOperand o s).2 = logicOp b (readOperand o s).2) :
    let m := readOperand o s
    execAlu op o s =
      .next { m.2 with
        cycles := o.cost s.params.cyc
        cpu :=
          { s.cpu with
            a := b, afterSet := false
            p :=
              { s.cpu.p with
                n := decide (128 ≤ b.toNat), z := decide (b = 0), t := false } } } := by
  intro m
  have hp : (logicOp b m.2).2.cpu.p =
      { s.cpu.p with n := decide (128 ≤ b.toNat), z := decide (b = 0) } := by
    rw [← readOperand_cpu s o]
    exact Flags.setNZ_eq _ b
  rw [execAlu_normal h rfl hop, hextra, hp]
  rfl

/-- Settles O24: each form is one logic operation into A, whose only accesses are the operand reads. -/
theorem logicIntoAccumulator : Obligations.LogicIntoAccumulator := by
  intro nn zz hhll s f b hmode m hform
  have hreads : ReadsOnly s m.2 := readOperand_readsOnly f.2 s
  refine ⟨?_, hreads, hreads.memoryKept⟩
  obtain ⟨h, rfl⟩ | ⟨h, rfl⟩ | ⟨h, rfl⟩ := hform
  · exact (exec_of_mem_aluForms (op := .and) h s).trans (execAlu_logic hmode rfl rfl)
  · exact (exec_of_mem_aluForms (op := .ora) h s).trans (execAlu_logic hmode rfl rfl)
  · exact (exec_of_mem_aluForms (op := .eor) h s).trans (execAlu_logic hmode rfl rfl)

/-! ### ADC and SBC -/

/-- ADC or SBC. -/
def AluOp.addOrSub (sub : Bool) : AluOp := if sub then .sbc else .adc

theorem AluOp.addOrSub_apply (sub : Bool) (acc m : Byte) (s : State) :
    (AluOp.addOrSub sub).apply acc m s = addOp sub acc m s := by
  cases sub <;> rfl

theorem AluOp.addOrSub_extra (sub : Bool) (s : State) :
    (AluOp.addOrSub sub).extra s = if s.cpu.p.d then s.params.cyc.decimalExtra else 0 := by
  cases sub <;> rfl

theorem exec_of_mem_addOrSubForms {sub : Bool} {nn zz : Byte} {hhll : Word} {f : Instr × Operand}
    (h : f ∈ (if sub then sbcForms else adcForms) nn zz hhll) (s : State) :
    exec f.1 s = execAlu (AluOp.addOrSub sub) f.2 s := by
  cases sub
  · exact exec_of_mem_aluForms (op := .adc) h s
  · exact exec_of_mem_aluForms (op := .sbc) h s

/-- The flags of an adder, N and Z as comparisons (41_alu.md R206). -/
theorem Flags.ofAdd_eq (f : Flags) (r : Byte) (c v : Bool) :
    f.ofAdd r c v = { f with n := decide (128 ≤ r.toNat), z := decide (r = 0), c := c, v := v } := by
  rw [Flags.ofAdd, msb_eq]
  rfl

/-! ### The binary adder (41_alu.md R201) -/

/-- Add8's overflow test is on bit 7: both operands differ from the result in sign. -/
theorem decide_signBit_ne_zero (x : Byte) : decide (x &&& 0x80#8 ≠ 0#8) = x.msb := by
  revert x
  decide

/-- Add8 in the integers: the sum mod 256, its carry, and its signed overflow (41_alu.md R201). -/
theorem add8_eq (a b : Byte) (c : Bool) :
    let r : Int := a.toNat + b.toNat + c.toNat
    let q : Int := a.toInt + b.toInt + c.toNat
    add8 a b c = (BitVec.ofInt 8 r, decide (256 ≤ r), decide (q < -128 ∨ 127 < q)) := by
  intro r q
  have ha : a.toNat < 256 := a.isLt
  have hb : b.toNat < 256 := b.isLt
  have hc : c.toNat ≤ 1 := c.toNat_le
  have hsum : BitVec.ofNat 8 ((a.toNat + b.toNat + c.toNat) % 256) = BitVec.ofInt 8 r := by
    apply BitVec.eq_of_toNat_eq
    rw [BitVec.toNat_ofNat, BitVec.toNat_ofInt]
    omega
  have hr : (BitVec.ofInt 8 r).toNat = (a.toNat + b.toNat + c.toNat) % 256 := by
    rw [← hsum, BitVec.toNat_ofNat, Nat.mod_mod]
  have hcarry : decide (256 ≤ a.toNat + b.toNat + c.toNat) = decide (256 ≤ r) :=
    decide_eq_decide.2 (by omega)
  have hoverflow : ((a ^^^ BitVec.ofInt 8 r) &&& (b ^^^ BitVec.ofInt 8 r)).msb =
      decide (q < -128 ∨ 127 < q) := by
    rw [BitVec.msb_and, BitVec.msb_xor, BitVec.msb_xor, msb_eq, msb_eq, msb_eq, hr, Bool.eq_iff_iff]
    simp only [Bool.and_eq_true, bne_iff_ne, ne_eq, decide_eq_decide, decide_eq_true_eq, q,
      BitVec.toInt_eq_toNat_cond]
    omega
  simp only [add8]
  rw [hsum, hcarry, ← hoverflow, ← decide_signBit_ne_zero]

/-- Subtraction is Add8 of the complement: the difference mod 256, its not-borrow, and its signed
overflow (41_alu.md R201, R207). -/
theorem add8_not_eq (a m : Byte) (c : Bool) :
    let r : Int := a.toNat - m.toNat - (1 - c.toNat)
    let q : Int := a.toInt - m.toInt - (1 - c.toNat)
    add8 a (~~~m) c = (BitVec.ofInt 8 r, decide (0 ≤ r), decide (q < -128 ∨ 127 < q)) := by
  intro r q
  have hm : m.toNat < 256 := m.isLt
  have hnot : (~~~m).toNat = 255 - m.toNat := BitVec.toNat_not
  have hr : (a.toNat + (~~~m).toNat + c.toNat : Int) = r + 256 := by omega
  have hq : a.toInt + (~~~m).toInt + c.toNat = q := by
    simp only [q, BitVec.toInt_eq_toNat_cond, hnot]
    omega
  have hcarry : decide (256 ≤ r + 256) = decide (0 ≤ r) := decide_eq_decide.2 (by omega)
  have hmod : BitVec.ofInt 8 (r + 256) = BitVec.ofInt 8 r := by
    apply BitVec.eq_of_toInt_eq
    rw [BitVec.toInt_ofInt, BitVec.toInt_ofInt]
    exact Int.add_bmod_right r 256
  rw [add8_eq, hr, hq, hcarry, hmod]

theorem addOp_binary {s : State} (hd : s.cpu.p.d = false) (sub : Bool) (acc m : Byte) :
    let r := add8 acc (if sub then ~~~m else m) s.cpu.p.c
    addOp sub acc m s = (r.1, s.setP (s.cpu.p.ofAdd r.1 r.2.1 r.2.2)) := by
  rw [addOp, if_neg (c := s.cpu.p.d = true) (by simp [hd])]

/-- Settles O22: each form is binary Add8 of A and the operand or its complement. -/
theorem binaryAddAndSubtract : Obligations.BinaryAddAndSubtract := by
  intro nn zz hhll s sub f hform hd hmode m a c r q b
  have hreads : ReadsOnly s m.2 := readOperand_readsOnly f.2 s
  have hcpu : m.2.cpu = s.cpu := readOperand_cpu s f.2
  have hadd : add8 a (if sub then ~~~m.1 else m.1) s.cpu.p.c =
      (b, decide (if sub then 0 ≤ r else 256 ≤ r), decide (q < -128 ∨ 127 < q)) := by
    cases sub with
    | false => exact add8_eq a m.1 s.cpu.p.c
    | true => exact add8_not_eq a m.1 s.cpu.p.c
  have hextra : (AluOp.addOrSub sub).extra s = 0 := by
    rw [AluOp.addOrSub_extra, hd]
    rfl
  have hop : (AluOp.addOrSub sub).apply a m.1 m.2 = (b, m.2.setP { s.cpu.p with
      n := decide (128 ≤ b.toNat), z := decide (b = 0)
      c := decide (if sub then 0 ≤ r else 256 ≤ r), v := decide (q < -128 ∨ 127 < q) }) := by
    rw [AluOp.addOrSub_apply, addOp_binary (by rw [hcpu]; exact hd), hcpu, hadd, Flags.ofAdd_eq]
  refine ⟨?_, hreads, hreads.memoryKept⟩
  rw [exec_of_mem_addOrSubForms hform s, execAlu_normal hmode rfl hop, hextra]
  rfl

/-! ### The decimal adder (41_alu.md R202) -/

/-- DecAdd digit by digit. -/
theorem decAdd_digits (a m : Byte) (c : Bool) :
    let low := a.toNat % 16 + m.toNat % 16 + c.toNat
    let lo := if 9 < low then low + 6 else low
    let high := a.toNat / 16 + m.toNat / 16 + (if 15 < lo then 1 else 0)
    let hi := if 9 < high then high + 6 else high
    (decAdd a m c).1.toNat = (16 * hi + lo % 16) % 256 ∧ (decAdd a m c).2 = decide (15 < hi) := by
  intro low lo high hi
  refine ⟨?_, rfl⟩
  show (BitVec.ofNat 8 ((hi * 16 + lo % 16) % 256)).toNat = _
  rw [BitVec.toNat_ofNat, Nat.mod_mod, Nat.mul_comm]

/-- DecSub digit by digit: the carry is the not-borrow of the binary difference. -/
theorem decSub_digits (a m : Byte) (c : Bool) :
    let low : Int := (a.toNat % 16 : Nat) - (m.toNat % 16 : Nat) - (1 - c.toNat)
    let lo := if low < 0 then low - 6 else low
    let high : Int := (a.toNat / 16 : Nat) - (m.toNat / 16 : Nat) - (if low < 0 then 1 else 0)
    let hi := if high < 0 then high - 6 else high
    ((decSub a m c).1.toNat : Int) = (16 * hi + lo % 16) % 256 ∧
      (decSub a m c).2 = decide ((0 : Int) ≤ a.toNat - m.toNat - (1 - c.toNat)) := by
  intro low lo high hi
  refine ⟨?_, rfl⟩
  have hhigh : (if low < 0 then ((a.toNat / 16 : Nat) - (m.toNat / 16 : Nat) : Int) - 1
      else (a.toNat / 16 : Nat) - (m.toNat / 16 : Nat)) = high := by
    by_cases h : low < 0 <;> simp [high, h]
  simp only [decSub]
  rw [hhigh]
  show ((BitVec.ofNat 8 ((hi * 16 + lo % 16) % 256).toNat).toNat : Int) = _
  rw [BitVec.toNat_ofNat]
  omega

theorem isBcd_iff (b : Byte) : isBcd b = true ↔ b.toNat % 16 ≤ 9 ∧ b.toNat / 16 ≤ 9 := by
  simp [isBcd]

/-- Two BCD bytes of one value are equal. -/
theorem eq_of_bcdValue_eq {a b : Byte} (ha : isBcd a = true) (hb : isBcd b = true)
    (h : bcdValue a = bcdValue b) : a = b := by
  rw [isBcd_iff] at ha hb
  unfold bcdValue at h
  exact BitVec.eq_of_toNat_eq (by omega)

theorem bcdValue_lt {b : Byte} (h : isBcd b = true) : bcdValue b < 100 := by
  rw [isBcd_iff] at h
  unfold bcdValue
  omega

/-- Adding 6 past 9 turns a sum of two digits into its decimal digit and its carry at 16. -/
theorem decimalCarry {n : Nat} (h : n ≤ 19) :
    (if 9 < n then n + 6 else n) = 16 * (n / 10) + n % 10 := by
  split <;> omega

/-- The sum so corrected passes 15 exactly when the two digits' sum passes 9. -/
theorem decimalCarry_out (n : Nat) : 15 < 16 * (n / 10) + n % 10 ↔ 10 ≤ n := by omega

/-- Subtracting 6 below 0 turns a difference of two digits into its decimal digit mod 16. -/
theorem decimalBorrow {n : Int} (h : -10 ≤ n) (h' : n ≤ 9) :
    (if n < 0 then n - 6 else n) % 16 = n % 10 := by
  split <;> omega

/-- DecAdd of BCD operands adds their digits in base 10. -/
theorem decAdd_decimalDigits {a m : Byte} (ha : isBcd a = true) (hm : isBcd m = true) (c : Bool) :
    let low := a.toNat % 16 + m.toNat % 16 + c.toNat
    let high := a.toNat / 16 + m.toNat / 16 + low / 10
    (decAdd a m c).1.toNat = 16 * (high % 10) + low % 10 ∧ (decAdd a m c).2 = decide (10 ≤ high) := by
  intro low high
  rw [isBcd_iff] at ha hm
  have hc : c.toNat ≤ 1 := c.toNat_le
  have hlow : low ≤ 19 := by omega
  have hhigh : high ≤ 19 := by omega
  have hcarry : (if 15 < 16 * (low / 10) + low % 10 then 1 else 0) = low / 10 := by
    simp only [decimalCarry_out]
    split <;> omega
  obtain ⟨hresult, hout⟩ := decAdd_digits a m c
  rw [decimalCarry hlow, hcarry, decimalCarry hhigh] at hresult hout
  exact ⟨by omega, hout.trans (decide_eq_decide.2 (decimalCarry_out high))⟩

/-- DecSub of BCD operands subtracts their digits in base 10. -/
theorem decSub_decimalDigits {a m : Byte} (ha : isBcd a = true) (hm : isBcd m = true) (c : Bool) :
    let low : Int := (a.toNat % 16 : Nat) - (m.toNat % 16 : Nat) - (1 - c.toNat)
    let high : Int := (a.toNat / 16 : Nat) - (m.toNat / 16 : Nat) + low / 10
    ((decSub a m c).1.toNat : Int) = 16 * (high % 10) + low % 10 ∧
      (decSub a m c).2 = decide (0 ≤ high) := by
  intro low high
  rw [isBcd_iff] at ha hm
  have hc : c.toNat ≤ 1 := c.toNat_le
  have hborrow : ((a.toNat / 16 : Nat) - (m.toNat / 16 : Nat) - (if low < 0 then 1 else 0) : Int) =
      high := by
    split <;> omega
  obtain ⟨hresult, hout⟩ := decSub_digits a m c
  have hlowDigit : (if low < 0 then low - 6 else low) % 16 = low % 10 :=
    decimalBorrow (by omega) (by omega)
  have hhighDigit : (if high < 0 then high - 6 else high) % 16 = high % 10 :=
    decimalBorrow (by omega) (by omega)
  rw [hborrow, hlowDigit] at hresult
  exact ⟨by omega, hout.trans (decide_eq_decide.2 (by omega))⟩

/-- DecAdd of BCD operands is the sum mod 100 with its carry. -/
theorem decAdd_bcd {a m : Byte} (ha : isBcd a = true) (hm : isBcd m = true) (c : Bool) :
    let x : Int := bcdValue a + bcdValue m + c.toNat
    isBcd (decAdd a m c).1 = true ∧ (bcdValue (decAdd a m c).1 : Int) = x % 100 ∧
      (decAdd a m c).2 = decide (100 ≤ x) := by
  obtain ⟨hresult, hout⟩ := decAdd_decimalDigits ha hm c
  rw [isBcd_iff] at ha hm
  intro x
  refine ⟨(isBcd_iff _).2 (by omega), ?value, hout.trans (decide_eq_decide.2 ?carry)⟩
  all_goals
    simp only [x, bcdValue]
    omega

/-- DecSub of BCD operands is the difference mod 100 with its not-borrow. -/
theorem decSub_bcd {a m : Byte} (ha : isBcd a = true) (hm : isBcd m = true) (c : Bool) :
    let x : Int := bcdValue a - bcdValue m - (1 - c.toNat)
    isBcd (decSub a m c).1 = true ∧ (bcdValue (decSub a m c).1 : Int) = x % 100 ∧
      (decSub a m c).2 = decide (0 ≤ x) := by
  obtain ⟨hresult, hout⟩ := decSub_decimalDigits ha hm c
  rw [isBcd_iff] at ha hm
  intro x
  refine ⟨(isBcd_iff _).2 (by omega), ?value, hout.trans (decide_eq_decide.2 ?carry)⟩
  all_goals
    simp only [x, bcdValue]
    omega

/-- DecSub with the complement of the carry in undoes DecAdd (conflict C1). -/
theorem decSub_decAdd {a m : Byte} (ha : isBcd a = true) (hm : isBcd m = true) (c : Bool) :
    decSub (decAdd a m c).1 m (!c) = (a, !(decAdd a m c).2) := by
  obtain ⟨haddBcd, haddValue, haddCarry⟩ := decAdd_bcd ha hm c
  obtain ⟨hsubBcd, hsubValue, hsubCarry⟩ := decSub_bcd haddBcd hm (!c)
  have hnot : (!c).toNat = 1 - c.toNat := by cases c <;> rfl
  have hc : c.toNat ≤ 1 := c.toNat_le
  have haValue : bcdValue a < 100 := bcdValue_lt ha
  have hmValue : bcdValue m < 100 := bcdValue_lt hm
  refine Prod.ext (eq_of_bcdValue_eq hsubBcd ha ?_) ?_
  · show bcdValue _ = bcdValue a
    omega
  · show (decSub _ m (!c)).2 = !(decAdd a m c).2
    rw [hsubCarry, haddCarry, ← decide_not, decide_eq_decide, hnot]
    omega

/-! ### ADC and SBC in decimal mode -/

/-- The adder itself answers, where its result is not a free value (41_alu.md R202). -/
theorem decimalResult_fst {s : State} {acc m : Byte} (sub : Bool)
    (h : s.params.bcdInvalid = .algorithm ∨ isBcd acc = true ∧ isBcd m = true) :
    (decimalResult sub acc m s).1 =
      if sub then decSub acc m s.cpu.p.c else decAdd acc m s.cpu.p.c := by
  have hno : ¬(s.params.bcdInvalid = .draw ∧ (!isBcd acc || !isBcd m) = true) := by
    rintro ⟨hdraw, hbad⟩
    obtain halg | ⟨hacc, hm⟩ := h
    · simp [halg] at hdraw
    · simp [hacc, hm] at hbad
  rw [decimalResult, if_neg hno]

/-- A decimal ADC or SBC writes its result and flags, V being a free value, and draws (41_alu.md R203). -/
theorem addOp_decimal {s : State} (hd : s.cpu.p.d = true) (sub : Bool) (acc m : Byte) :
    let r := (decimalResult sub acc m s).1
    ∃ v k, addOp sub acc m s =
      (r.1, { s with draws := k, cpu := { s.cpu with p := s.cpu.p.ofAdd r.1 r.2 v } }) := by
  rw [addOp, if_pos hd]
  unfold decimalResult
  split <;> exact ⟨_, _, rfl⟩

/-- Decimal ADC or SBC into A (41_alu.md R205-R207). -/
theorem execAlu_decimal {o : Operand} {s : State} (sub : Bool) (hd : s.cpu.p.d = true)
    (hmode : tModeApplies o s = false) :
    let m := readOperand o s
    let r := (decimalResult sub s.cpu.a m.1 m.2).1
    ∃ v k, execAlu (AluOp.addOrSub sub) o s =
      .next { m.2 with
        cycles := o.cost s.params.cyc + s.params.cyc.decimalExtra
        draws := k
        cpu :=
          { s.cpu with
            a := r.1, afterSet := false
            p :=
              { s.cpu.p with
                n := decide (128 ≤ r.1.toNat), z := decide (r.1 = 0), t := false, c := r.2
                v := v } } } := by
  intro m r
  have hcpu : m.2.cpu = s.cpu := readOperand_cpu s o
  obtain ⟨v, k, hop⟩ := addOp_decimal (s := m.2) (by rw [hcpu]; exact hd) sub s.cpu.a m.1
  rw [← AluOp.addOrSub_apply, hcpu, Flags.ofAdd_eq] at hop
  refine ⟨v, k, ?_⟩
  rw [execAlu_normal hmode rfl hop, AluOp.addOrSub_extra, if_pos hd]

/-- A decimal ADC or SBC of BCD operands, immediate: its result and carry are the adder's. -/
theorem exec_decimal_imm {s t : State} {b : Byte} (sub : Bool) (hd : s.cpu.p.d = true)
    (ha : isBcd s.cpu.a = true) (hb : isBcd b = true)
    (h : exec ((AluOp.addOrSub sub).immForm b) s = .next t) :
    let r := if sub then decSub s.cpu.a b s.cpu.p.c else decAdd s.cpu.a b s.cpu.p.c
    t.cpu.a = r.1 ∧ t.cpu.p.c = r.2 ∧ t.cpu.p.d = true := by
  obtain ⟨v, k, heq⟩ := execAlu_decimal (o := .imm b) sub hd rfl
  rw [← exec_immForm, h] at heq
  obtain rfl := Host.Outcome.next.inj heq
  have hresult := decimalResult_fst sub (s := s) (.inr ⟨ha, hb⟩)
  exact ⟨congrArg Prod.fst hresult, congrArg Prod.snd hresult, hd⟩

/-- Settles O23: each form is the decimal adder on A and the operand, or a free value where an operand
is not BCD and the parameter says so; and DecSub undoes DecAdd. -/
theorem decimalAddAndSubtract : Obligations.DecimalAddAndSubtract := by
  refine ⟨?forms, ?undo⟩
  case forms =>
    intro nn zz hhll s sub f hform hd hmode m a c x
    have hreads : ReadsOnly s m.2 := readOperand_readsOnly f.2 s
    have hcpu : m.2.cpu = s.cpu := readOperand_cpu s f.2
    have hparams : m.2.params = s.params := readOperand_params s f.2
    obtain ⟨v, k, hexec⟩ := execAlu_decimal sub hd hmode
    have hresult : s.params.bcdInvalid = .algorithm ∨ isBcd a = true ∧ isBcd m.1 = true →
        (decimalResult sub a m.1 m.2).1 =
          if sub then decSub a m.1 s.cpu.p.c else decAdd a m.1 s.cpu.p.c := by
      rw [← hparams, ← hcpu]
      exact decimalResult_fst sub
    refine ⟨_, _, v, k, (exec_of_mem_addOrSubForms hform s).trans hexec, fun ha hm => ?bcd,
      fun halg hsub => ?addDigits, fun halg hsub => ?subDigits, hreads, hreads.memoryKept⟩
    case bcd =>
      rw [hresult (.inr ⟨ha, hm⟩)]
      cases sub with
      | false => exact decAdd_bcd ha hm s.cpu.p.c
      | true => exact decSub_bcd ha hm s.cpu.p.c
    case addDigits =>
      subst hsub
      rw [hresult (.inl halg), if_neg Bool.false_ne_true]
      subst c
      exact decAdd_digits a m.1 s.cpu.p.c
    case subDigits =>
      subst hsub
      rw [hresult (.inl halg), if_pos rfl]
      exact decSub_digits a m.1 s.cpu.p.c
  case undo =>
    intro s t u b hd ha hb hadc hsbc
    obtain ⟨hsum, hcarry, htd⟩ : t.cpu.a = (decAdd s.cpu.a b s.cpu.p.c).1 ∧
        t.cpu.p.c = (decAdd s.cpu.a b s.cpu.p.c).2 ∧ t.cpu.p.d = true :=
      exec_decimal_imm false hd ha hb hadc
    have hsumBcd : isBcd t.cpu.a = true := by
      rw [hsum]
      exact (decAdd_bcd ha hb s.cpu.p.c).1
    obtain ⟨hdiff, hborrow, -⟩ : u.cpu.a = (decSub t.cpu.a b (!s.cpu.p.c)).1 ∧
        u.cpu.p.c = (decSub t.cpu.a b (!s.cpu.p.c)).2 ∧ u.cpu.p.d = true :=
      exec_decimal_imm (s := { t with cpu := { t.cpu with p := { t.cpu.p with c := !s.cpu.p.c } } })
        true htd hsumBcd hb hsbc
    rw [hdiff, hborrow, hcarry, hsum, decSub_decAdd ha hb]
    exact ⟨rfl, rfl⟩

/-! ### T-mode -/

/-- The draw counter is no part of what reads keep. -/
theorem ReadsOnly.withDraws {s t : State} (h : ReadsOnly s t) (k : Nat) :
    ReadsOnly s { t with draws := k } := h.trans rfl

/-- An operation in T-mode: the operand m and then the zero-page byte at X read, the result of the
operation on them written back there, P and the draw counter from it (41_alu.md R205). -/
theorem execAlu_tMode {op : AluOp} {o : Operand} {s : State} {m acc r : Byte × State} {tgt : Word}
    (h : tModeApplies o s = true) (hm : readOperand o s = m)
    (htgt : 0x2000 + s.cpu.x.zeroExtend 16 = tgt) (hacc : memRead tgt m.2 = acc)
    (hr : op.apply acc.1 m.1 acc.2 = r) :
    execAlu op o s =
      .next { memWrite tgt r.1 { acc.2 with draws := r.2.draws } with
        cycles := o.cost s.params.cyc + op.extra s + s.params.cyc.tModeExtra
        cpu := { s.cpu with p := { r.2.cpu.p with t := false }, afterSet := false } } := by
  have hmcpu : m.2.cpu = s.cpu := by rw [← hm, readOperand_cpu]
  have hacccpu : acc.2.cpu = s.cpu := by rw [← hacc, memRead_cpu, hmcpu]
  have hstate : r.2 = { acc.2 with draws := r.2.draws, cpu := { s.cpu with p := r.2.cpu.p } } := by
    rw [← hr, ← hacccpu]
    exact op.apply_snd acc.1 m.1 acc.2
  have hwrite : aluOnMemory op o s = { memWrite tgt r.1 { acc.2 with draws := r.2.draws } with
      cpu := { s.cpu with p := r.2.cpu.p } } := by
    have hx : r.2.cpu.x = s.cpu.x := by rw [hstate]
    simp only [aluOnMemory, hm, zpRead, zpWrite, zpAddr_eq, hmcpu, htgt, hacc, hr, hx]
    rw [hstate]
    exact memWrite_withCpu { acc.2 with draws := r.2.draws } _ tgt r.1
  rw [execAlu, if_pos h, hwrite]
  rfl

/-- An immediate operation on the accumulator of another CPU with the same flags: it is the operation on
that accumulator, over the state at hand. -/
theorem execAlu_imm_withCpu (op : AluOp) (b : Byte) {s : State} {c : Cpu} (hp : c.p = s.cpu.p) :
    let r := op.apply c.a b s
    execAlu op (.imm b) { s with cpu := c } =
      .next { s with
        cycles := s.params.cyc.imm + op.extra s
        draws := r.2.draws
        cpu := { c with a := r.1, p := { r.2.cpu.p with t := false }, afterSet := false } } := by
  intro r
  have hop : op.apply c.a b { s with cpu := c } =
      (r.1, { s with draws := r.2.draws, cpu := { c with p := r.2.cpu.p } }) :=
    op.apply_withCpu c.a b hp
  have hextra : op.extra { s with cpu := c } = op.extra s := by
    simp only [AluOp.extra, hp]
  rw [execAlu_normal rfl rfl hop, hextra]
  rfl

/-- Settles O25: both runs are the operation on the zero-page byte at X and the operand, the one into A
and the other into that byte. -/
theorem tModeActsOnMemory : Obligations.TModeActsOnMemory := by
  intro op nn zz hhll s i m hform ht hmode o tgt acc
  have hT : tModeApplies (.mem m) s = true := by simp [tModeApplies, ht, hmode]
  have hreads : ReadsOnly s acc.2 := (readOperand_readsOnly (.mem m) s).trans (memRead_readsOnly _ _)
  have hcpu : acc.2.cpu = s.cpu := (memRead_cpu o.2 tgt).trans (readOperand_cpu s (.mem m))
  have hparams : acc.2.params = s.params :=
    (memRead_params o.2 tgt).trans (readOperand_params s (.mem m))
  have hextra : op.extra acc.2 = op.extra s := by
    simp only [AluOp.extra, hcpu, hparams]
  obtain ⟨r, hr⟩ : ∃ r, r = op.apply acc.1 o.1 acc.2 := ⟨_, rfl⟩
  have himm : exec (op.immForm o.1) { acc.2 with cpu := { s.cpu with a := acc.1 } } =
      .next { acc.2 with
        cycles := s.params.cyc.imm + op.extra s
        draws := r.2.draws
        cpu := { s.cpu with a := r.1, p := { r.2.cpu.p with t := false }, afterSet := false } } := by
    rw [exec_immForm, hr, ← hparams, ← hextra]
    exact execAlu_imm_withCpu op o.1 (s := acc.2) (c := { s.cpu with a := acc.1 })
      (congrArg Cpu.p hcpu).symm
  have hmem : exec i s =
      .next { memWrite tgt r.1 { acc.2 with draws := r.2.draws } with
        cycles := m.cost s.params.cyc + op.extra s + s.params.cyc.tModeExtra
        cpu := { s.cpu with p := { r.2.cpu.p with t := false }, afterSet := false } } := by
    rw [exec_of_mem_aluForms hform s]
    exact execAlu_tMode hT (m := o) rfl (tgt := tgt) rfl rfl hr.symm
  have hframe := (hreads.withDraws r.2.draws).memoryKeptBut_memWrite tgt r.1
  clear_value o tgt acc
  refine ⟨_, _, himm, rfl, ?_, rfl, hframe.congr rfl rfl rfl rfl⟩
  rw [hmem, Nat.add_sub_cancel_left]

end Sys2Proof.Machine
end

section
/-! PROOFS. The stack in RAM: what is pushed there is what the stack reads give back (10_state.md R34,
20_memory.md R76, R82). -/

namespace Sys2Proof.Machine

variable {s t : State} {bs : List Byte}

/-- A stack byte's offset in its page: slot 1 begins at $2000 and the stack at $2100. -/
theorem State.translate_stackAddr_offset (s : State) (sp : Byte) :
    (s.translate (stackAddr sp)).offset.toNat = 256 + sp.toNat := by
  rw [State.translate_offset, stackAddr_eq]
  simp
  omega

/-- With slot 1 in work RAM, the stack is bytes $100 to $1FF of it (20_memory.md R82). -/
theorem State.place_stackAddr (h : s.slot1InRam = true) (sp : Byte) :
    s.place (stackAddr sp) = .wram (256 + sp.toNat) := by
  simp only [State.slot1InRam, Bool.and_eq_true, decide_eq_true_eq] at h
  obtain ⟨⟨⟨hram, hrom⟩, hcart⟩, hhw⟩ := h
  simp only [State.place, placeOf, s.translate_stackAddr_page, s.translate_stackAddr_offset]
  rw [if_neg (Nat.not_lt.2 hrom), if_neg hhw, if_neg hcart, if_pos hram]

theorem memRead_stackAddr (h : s.slot1InRam = true) (sp : Byte) :
    memRead (stackAddr sp) s = (s.wram.get (256 + sp.toNat), s) := by
  show s.readPlace (s.place (stackAddr sp)) = _
  rw [State.place_stackAddr h]
  rfl

theorem memWrite_stackAddr (h : s.slot1InRam = true) (sp b : Byte) :
    memWrite (stackAddr sp) b s = { s with wram := s.wram.set (256 + sp.toNat) b } := by
  show s.writePlace (s.place (stackAddr sp)) b = _
  rw [State.place_stackAddr h]
  rfl

/-- The stack lies in RAM, and the bytes above S are bs, the one pulled next first. -/
structure StackHolds (bs : List Byte) (s : State) : Prop where
  inRam : s.slot1InRam = true
  wf : s.wram.wf = true
  bytes (k : Nat) (hk : k < bs.length) :
    s.wram.get (256 + (s.cpu.sp + BitVec.ofNat 8 (k + 1)).toNat) = bs[k]

theorem StackHolds.nil (h : s.slot1InRam = true) (hwf : s.wram.wf = true) : StackHolds [] s :=
  ⟨h, hwf, fun _ hk => absurd hk (Nat.not_lt_zero _)⟩

/-- What the stack holds depends on the slots, the parameters, work RAM and S alone. -/
theorem StackHolds.congr (h : StackHolds bs s) (hmpr : t.mpr = s.mpr) (hparams : t.params = s.params)
    (hwram : t.wram = s.wram) (hsp : t.cpu.sp = s.cpu.sp) : StackHolds bs t where
  inRam := by simpa only [State.slot1InRam, hmpr, hparams] using h.inRam
  wf := hwram ▸ h.wf
  bytes := by simpa only [hwram, hsp] using h.bytes

/-- The byte a stack read gives, counted from S; it changes nothing. -/
theorem StackHolds.read (h : StackHolds bs s) (k : Nat) (hk : k < bs.length) :
    memRead (stackAddr (s.cpu.sp + BitVec.ofNat 8 (k + 1))) s = (bs[k], s) := by
  rw [memRead_stackAddr h.inRam, h.bytes k hk]

/-- A push goes on top. S goes around after 256 bytes, so fewer must lie above it for all to stay. -/
theorem StackHolds.push (h : StackHolds bs s) (hlen : bs.length < 255) (v : Byte) :
    StackHolds (v :: bs) (push v s) := by
  have hpush : Machine.push v s =
      { s with
        wram := s.wram.set (256 + s.cpu.sp.toNat) v, cpu := { s.cpu with sp := s.cpu.sp - 1 } } := by
    rw [push_eq, memWrite_stackAddr h.inRam]
  rw [hpush]
  refine ⟨h.inRam, Memory.wf_set v _ h.wf, fun k hk => ?_⟩
  cases k with
  | zero =>
    have htop : s.cpu.sp - 1 + BitVec.ofNat 8 (0 + 1) = s.cpu.sp := BitVec.sub_add_cancel _ _
    simp only [htop]
    exact Memory.get_set_same v _ h.wf
  | succ k =>
    have hk : k < bs.length := Nat.lt_of_succ_lt_succ hk
    have hup : s.cpu.sp - 1 + BitVec.ofNat 8 (k + 1 + 1) = s.cpu.sp + BitVec.ofNat 8 (k + 1) := by
      bv_omega
    have hne : 256 + (s.cpu.sp + BitVec.ofNat 8 (k + 1)).toNat ≠ 256 + s.cpu.sp.toNat := by
      bv_omega
    simp only [hup]
    exact (Memory.get_set_other v hne s.wram).trans (h.bytes k hk)

theorem StackHolds.push16 (h : StackHolds bs s) (hlen : bs.length < 254) (w : Word) :
    StackHolds (loByte w :: hiByte w :: bs) (push16 w s) :=
  (h.push (by omega) _).push (by simp; omega) _

end Sys2Proof.Machine
end

section
/-! PROOFS. Conditional branches, calls, BRK and the returns (42_control.md R260-R277). -/

namespace Sys2Proof.Machine

variable {s t u : State} {l : List Place}

/-! ### Conditional branches -/

/-- Each of the eight is the shared branch on its condition. -/
theorem exec_of_mem_branchForms {rr : Byte} {i : Instr} {b : Bool} (s : State)
    (h : (i, b) ∈ branchForms rr s.cpu.p) : exec i s = branchIf b rr s := by
  fin_cases h <;> rfl

/-- Settles O32: each of the eight is the shared branch, taken or not. -/
theorem conditionalBranches : Obligations.ConditionalBranches := by
  refine ⟨fun _ _ => rfl, fun rr s i b hform => ?_⟩
  rw [exec_of_mem_branchForms s hform]
  cases b with
  | true => rfl
  | false => rfl

/-! ### Writes in a row -/

theorem memWrite_memoryKeptBut (a : Word) (b : Byte) (s : State) :
    MemoryKeptBut [s.place a] s (memWrite a b s) :=
  have hreads : ReadsOnly s s := rfl
  hreads.memoryKeptBut_memWrite a b

/-- One more write changes at most the byte its address leads to by then: an earlier write can have moved
a slot. -/
theorem MemoryKeptBut.thenWrite (h : MemoryKeptBut l s t) (a : Word) (b : Byte) :
    MemoryKeptBut (l ++ [t.place a]) s (memWrite a b t) := by
  intro pl hpl
  rw [List.mem_append, List.mem_singleton, not_or] at hpl
  obtain ⟨hl, ha⟩ := hpl
  rw [byteAt_memWrite_other t (Ne.symm ha), h pl hl]

theorem MemoryKeptBut.thenReads (h : MemoryKeptBut l s t) (k : ReadsOnly t u) :
    MemoryKeptBut l s u :=
  fun pl hpl => (k.memoryKept pl).trans (h pl hpl)

/-! ### Calls -/

/-- The state after a call: the address of its last byte pushed, then the jump (42_control.md R272,
R274). -/
def called (cost : Nat) (target : Word) (s : State) : State :=
  let ret := s.cpu.pc - 1
  { memWrite (stackAddr (s.cpu.sp - 1)) (loByte ret)
      (memWrite (stackAddr s.cpu.sp) (hiByte ret) s) with
    cycles := cost
    cpu :=
      { s.cpu with
        pc := target, sp := s.cpu.sp - 2, p := { s.cpu.p with t := false }, afterSet := false } }

theorem callTo_eq (cost : Nat) (target : Word) (s : State) :
    callTo cost target s = .next (called cost target s) := by
  rw [callTo, push16_eq]
  rfl

theorem called_memoryKeptBut (cost : Nat) (target : Word) (s : State) :
    let v := memWrite (stackAddr s.cpu.sp) (hiByte (s.cpu.pc - 1)) s
    MemoryKeptBut [s.place (stackAddr s.cpu.sp), v.place (stackAddr (s.cpu.sp - 1))] s
      (called cost target s) :=
  ((memWrite_memoryKeptBut _ _ s).thenWrite _ _).congr rfl rfl rfl rfl

/-- Settles O35: both calls are the shared one, whose two pushes are two writes. -/
theorem callsPushReturnAddress : Obligations.CallsPushReturnAddress := by
  intro rr hhll s i target k hcall
  suffices hexec : exec i s = callTo k target s from
    ⟨hexec.trans (callTo_eq k target s), called_memoryKeptBut k target s⟩
  obtain ⟨rfl, rfl, rfl⟩ | ⟨rfl, rfl, rfl⟩ := hcall
  · rfl
  · rfl

/-! ### Entering a vector -/

/-- The bus after the three pushes of an entry, PC and then P with B = b (60_exceptions.md R405). -/
def entryPushed (b : Bool) (s : State) : State :=
  memWrite (stackAddr (s.cpu.sp - 2)) (s.cpu.p.toByte b)
    (memWrite (stackAddr (s.cpu.sp - 1)) (loByte s.cpu.pc)
      (memWrite (stackAddr s.cpu.sp) (hiByte s.cpu.pc) s))

theorem push_toByte_push16 (b : Bool) (s : State) :
    push (s.cpu.p.toByte b) (push16 s.cpu.pc s) =
      { entryPushed b s with cpu := { s.cpu with sp := s.cpu.sp - 3 } } := by
  have hsp : s.cpu.sp - 2 - 1 = s.cpu.sp - 3 := by rw [BitVec.sub_sub]; rfl
  rw [push_eq, push16_eq, memWrite_withCpu, ← hsp]
  rfl

theorem entryPushed_memoryKeptBut (b : Bool) (s : State) :
    let s1 := memWrite (stackAddr s.cpu.sp) (hiByte s.cpu.pc) s
    let s2 := memWrite (stackAddr (s.cpu.sp - 1)) (loByte s.cpu.pc) s1
    MemoryKeptBut
      [s.place (stackAddr s.cpu.sp), s1.place (stackAddr (s.cpu.sp - 1)),
        s2.place (stackAddr (s.cpu.sp - 2))] s (entryPushed b s) :=
  ((memWrite_memoryKeptBut _ _ s).thenWrite _ _).thenWrite _ _

/-- Clearing a request touches the interrupt requests and NMI's pending bit alone. -/
theorem State.clearRequest_withCpu (s : State) (c : Cpu) (src : Source) :
    State.clearRequest { s with cpu := c } src =
      { s.clearRequest src with
        cpu := { c with nmiPending := c.nmiPending && decide (src ≠ .nmi) } } := by
  cases src <;> simp [State.clearRequest]

@[simp] theorem State.clearRequest_mpr (s : State) (src : Source) : (s.clearRequest src).mpr = s.mpr := by
  cases src <;> rfl

@[simp] theorem State.clearRequest_params (s : State) (src : Source) :
    (s.clearRequest src).params = s.params := by
  cases src <;> rfl

@[simp] theorem State.clearRequest_wram (s : State) (src : Source) :
    (s.clearRequest src).wram = s.wram := by
  cases src <;> rfl

theorem ReadsOnly.irq (h : ReadsOnly s t) : t.irq = s.irq := by
  rw [h]

/-- A word read as two byte reads, b being the address after a (20_memory.md R77). -/
theorem read16_of_next {a b : Word} (h : a + 1 = b) (s : State) :
    let lo := memRead a s
    let hi := memRead b lo.2
    read16 a s = (hi.1 ++ lo.1, hi.2) := by
  subst h
  rfl

/-- An entry as three writes, the request cleared, and the word u read from the vector (60_exceptions.md
R405, 42_control.md R277). -/
theorem enterVector_of_read {src : Source} {w : Word}
    (hread : read16 src.vector ((entryPushed (decide (src = .brk)) s).clearRequest src) = (w, u)) :
    enterVector src s =
      { u with
        cpu :=
          { s.cpu with
            sp := s.cpu.sp - 3, pc := w, p := s.cpu.p.onEntry
            nmiPending := s.cpu.nmiPending && decide (src ≠ .nmi) } } := by
  have hflags : (push16 s.cpu.pc s).cpu.p = s.cpu.p := by rw [push16_cpu]
  simp only [enterVector, hflags, push_toByte_push16, State.setP]
  generalize entryPushed (decide (src = .brk)) s = v at hread ⊢
  rw [v.clearRequest_withCpu { s.cpu with sp := s.cpu.sp - 3, p := s.cpu.p.onEntry } src,
    read16_withCpu (v.clearRequest src), hread]
  rfl

/-- What an entry leaves of the CPU: all but S, P, PC and NMI's pending bit (60_exceptions.md R405). -/
theorem enterVector_cpu (src : Source) (s : State) :
    ∃ w, (enterVector src s).cpu =
      { s.cpu with
        sp := s.cpu.sp - 3, pc := w, p := s.cpu.p.onEntry
        nmiPending := s.cpu.nmiPending && decide (src ≠ .nmi) } := by
  obtain ⟨⟨w, u⟩, hread⟩ : ∃ r,
      read16 src.vector ((entryPushed (decide (src = .brk)) s).clearRequest src) = r := ⟨_, rfl⟩
  exact ⟨w, by rw [enterVector_of_read hread]⟩

/-- Settles O37: BRK's entry is three writes and the two reads of the IRQ2 vector. -/
theorem breakEntersVector : Obligations.BreakEntersVector := by
  intro sig s s1 s2 s3 lo hi
  have hreads : ReadsOnly s3 hi.2 := (memRead_readsOnly _ s3).trans (memRead_readsOnly _ lo.2)
  have hread : read16 Source.brk.vector ((entryPushed true s).clearRequest .brk) =
      (hi.1 ++ lo.1, hi.2) := read16_of_next (a := 0xFFF6) (by decide) s3
  have hkept := (entryPushed_memoryKeptBut true s).thenReads hreads
  clear_value hi lo
  refine ⟨?_, hreads.irq, hkept⟩
  show finish s.params.cyc.brk (enterVector .brk s) = _
  rw [enterVector_of_read hread]
  simp [finish, State.endWith, Flags.onEntry]

/-! ### Returns -/

section Returns

variable {u1 u2 u3 : State} {b1 b2 b3 : Byte}

/-- A 16-bit pull over another CPU, by its two reads. -/
theorem pull16_of_reads {c : Cpu} (h1 : memRead (stackAddr (c.sp + 1)) s = (b1, u1))
    (h2 : memRead (stackAddr (c.sp + 2)) u1 = (b2, u2)) :
    pull16 { s with cpu := c } =
      (joinBytes b1 b2, { u2 with cpu := { c with sp := c.sp + 2 } }) := by
  rw [pull16_eq, memRead_withCpu s c, h1, memRead_withCpu u1 c, h2]

/-- RTS, by its two reads: PC goes past the address pulled (42_control.md R275). -/
theorem exec_rts_of_reads (h1 : memRead (stackAddr (s.cpu.sp + 1)) s = (b1, u1))
    (h2 : memRead (stackAddr (s.cpu.sp + 2)) u1 = (b2, u2)) :
    exec .rts s =
      .next { u2 with
        cycles := s.params.cyc.jsr
        cpu :=
          { s.cpu with
            sp := s.cpu.sp + 2, pc := joinBytes b1 b2 + 1, p := { s.cpu.p with t := false }
            afterSet := false } } := by
  show execRts s = _
  rw [execRts, pull16_of_reads (c := s.cpu) h1 h2]
  rfl

/-- RTI, by its three reads: the flags but T from the first, PC from the other two (42_control.md
R276). -/
theorem exec_rti_of_reads (h1 : memRead (stackAddr (s.cpu.sp + 1)) s = (b1, u1))
    (h2 : memRead (stackAddr (s.cpu.sp + 2)) u1 = (b2, u2))
    (h3 : memRead (stackAddr (s.cpu.sp + 3)) u2 = (b3, u3)) :
    exec .rti s =
      .next { u3 with
        cycles := s.params.cyc.jsr
        cpu :=
          { s.cpu with
            sp := s.cpu.sp + 3, pc := joinBytes b2 b3
            p := { Flags.ofByte b1 with t := false }, afterSet := false } } := by
  have hsp2 : s.cpu.sp + 1 + 1 = s.cpu.sp + 2 := by rw [BitVec.add_assoc]; rfl
  have hsp3 : s.cpu.sp + 1 + 2 = s.cpu.sp + 3 := by rw [BitVec.add_assoc]; rfl
  have hpc := pull16_of_reads (c := { s.cpu with sp := s.cpu.sp + 1, p := Flags.ofByte b1 })
    (hsp2 ▸ h2) (hsp3 ▸ h3)
  rw [hsp3] at hpc
  show finish _ (returnFromInterrupt s) = _
  rw [returnFromInterrupt, pull_eq, h1]
  dsimp only [State.setP]
  rw [hpc]
  rfl

end Returns

/-- Settles O36: the two returns by their reads, which move nothing but what a device read moves. -/
theorem returnsPullPc : Obligations.ReturnsPullPc := by
  intro s b1 b2 b3
  have hreads2 : ReadsOnly s b2.2 := (memRead_readsOnly _ s).trans (memRead_readsOnly _ _)
  have hreads3 : ReadsOnly s b3.2 := hreads2.trans (memRead_readsOnly _ _)
  have h1 : memRead (stackAddr (s.cpu.sp + 1)) s = (b1.1, b1.2) := rfl
  have h2 : memRead (stackAddr (s.cpu.sp + 2)) b1.2 = (b2.1, b2.2) := rfl
  have h3 : memRead (stackAddr (s.cpu.sp + 3)) b2.2 = (b3.1, b3.2) := rfl
  clear_value b3 b2 b1
  exact ⟨exec_rts_of_reads h1 h2, exec_rti_of_reads h1 h2 h3, hreads2, hreads3, hreads3.memoryKept⟩

/-! ### Returns undo entries and calls -/

/-- RTS from a stack that holds an address. -/
theorem exec_rts_of_stackHolds {w : Word} (h : StackHolds [loByte w, hiByte w] s) :
    ∃ t, exec .rts s = .next t ∧
      t.cpu =
        { s.cpu with
          sp := s.cpu.sp + 2, pc := w + 1, p := { s.cpu.p with t := false }
          afterSet := false } := by
  have hexec := exec_rts_of_reads (h.read 0 (by simp)) (h.read 1 (by simp))
  refine ⟨_, hexec, ?_⟩
  simp only [List.getElem_cons_zero, List.getElem_cons_succ, joinBytes_lo_hi]

/-- RTI from a stack that holds a status byte and an address. -/
theorem exec_rti_of_stackHolds {f : Flags} {b : Bool} {w : Word}
    (h : StackHolds [f.toByte b, loByte w, hiByte w] s) :
    ∃ t, exec .rti s = .next t ∧
      t.cpu =
        { s.cpu with
          sp := s.cpu.sp + 3, pc := w, p := { f with t := false }, afterSet := false } := by
  have hexec := exec_rti_of_reads (h.read 0 (by simp)) (h.read 1 (by simp))
    (h.read 2 (by simp))
  refine ⟨_, hexec, ?_⟩
  simp only [List.getElem_cons_zero, List.getElem_cons_succ, joinBytes_lo_hi, Flags.ofByte_toByte]

/-- A call leaves its return address on the stack. -/
theorem called_stackHolds (h : StackHolds [] s) (cost : Nat) (target : Word) :
    StackHolds [loByte (s.cpu.pc - 1), hiByte (s.cpu.pc - 1)] (called cost target s) := by
  have hpushed := h.push16 (by simp) (s.cpu.pc - 1)
  rw [push16_eq] at hpushed
  exact hpushed.congr rfl rfl rfl rfl

/-- An entry leaves the status and PC on the stack: clearing the request and reading the vector move no
slot and no byte of work RAM. -/
theorem enterVector_stackHolds (h : StackHolds [] s) (src : Source) :
    StackHolds [s.cpu.p.toByte (decide (src = .brk)), loByte s.cpu.pc, hiByte s.cpu.pc]
      (enterVector src s) := by
  have hpushed := (h.push16 (by simp) s.cpu.pc).push (by simp)
    (s.cpu.p.toByte (decide (src = .brk)))
  have hsp : (enterVector src s).cpu.sp = s.cpu.sp - 1 - 1 - 1 := by
    obtain ⟨w, hcpu⟩ := enterVector_cpu src s
    rw [hcpu]
    bv_omega
  refine hpushed.congr ?_ ?_ ?_ ?_
  · simp [enterVector]
  · simp [enterVector]
  · simp [enterVector]
  · simp [hsp]

/-- RTS brings back PC and S from any call. -/
theorem exec_rts_called (h : StackHolds [] s) (cost : Nat) (target : Word) :
    ∃ t, exec .rts (called cost target s) = .next t ∧
      t.cpu = { s.cpu with p := { s.cpu.p with t := false }, afterSet := false } := by
  obtain ⟨t, hexec, hcpu⟩ := exec_rts_of_stackHolds (called_stackHolds h cost target)
  have hsp : s.cpu.sp - 2 + 2 = s.cpu.sp := BitVec.sub_add_cancel _ _
  have hpc : s.cpu.pc - 1 + 1 = s.cpu.pc := BitVec.sub_add_cancel _ _
  refine ⟨t, hexec, hcpu.trans ?_⟩
  simp only [called, hsp, hpc]

/-- RTI brings back PC, S and the flags but T from any state u that has an entry's S, slots, parameters
and work RAM. -/
theorem exec_rti_entered (h : StackHolds [] s) (src : Source) (hmpr : u.mpr = (enterVector src s).mpr)
    (hparams : u.params = (enterVector src s).params) (hwram : u.wram = (enterVector src s).wram)
    (hsp : u.cpu.sp = (enterVector src s).cpu.sp) :
    ∃ t, exec .rti u = .next t ∧
      t.cpu =
        { u.cpu with
          sp := s.cpu.sp, pc := s.cpu.pc, p := { s.cpu.p with t := false }, afterSet := false } := by
  obtain ⟨t, hexec, hcpu⟩ := exec_rti_of_stackHolds
    ((enterVector_stackHolds h src).congr hmpr hparams hwram hsp)
  obtain ⟨w, hentry⟩ := enterVector_cpu src s
  have hback : u.cpu.sp + 3 = s.cpu.sp := by
    rw [hsp, hentry]
    exact BitVec.sub_add_cancel _ _
  exact ⟨t, hexec, hcpu.trans (by rw [hback])⟩

/-- Settles O14: each entry and each call leaves on the stack what the return pulls. -/
theorem returnsUndoEntriesAndCalls : Obligations.ReturnsUndoEntriesAndCalls := by
  intro s u src sig rr hhll hram hwf back
  have hstack : StackHolds [] s := .nil hram hwf
  refine ⟨?entry, fun hbrk => ?brk, fun hcall => ?call⟩
  case entry =>
    obtain ⟨t, hexec, hcpu⟩ := exec_rti_entered hstack src (u := interruptEntry src s) rfl rfl rfl rfl
    obtain ⟨w, hentry⟩ := enterVector_cpu src s
    exact ⟨t, hexec, hcpu.trans (by rw [interruptEntry, hentry])⟩
  case brk =>
    obtain rfl : (enterVector .brk s).endWith false s.params.cyc.brk = u :=
      Host.Outcome.next.inj hbrk
    obtain ⟨t, hexec, hcpu⟩ := exec_rti_entered hstack .brk
      (State.endWith_mpr _ _ _) (State.endWith_params _ _ _)
      (State.endWith_wram _ _ _) (State.endWith_sp _ _ _)
    obtain ⟨w, hentry⟩ := enterVector_cpu .brk s
    exact ⟨t, hexec, hcpu.trans (by simp [State.endWith, hentry, back])⟩
  case call =>
    obtain ⟨cost, target, hu⟩ : ∃ cost target, u = called cost target s := by
      obtain h | h := hcall
      · exact ⟨_, _, (Host.Outcome.next.inj ((callTo_eq _ _ s).symm.trans h)).symm⟩
      · exact ⟨_, _, (Host.Outcome.next.inj ((callTo_eq _ _ s).symm.trans h)).symm⟩
    rw [hu]
    exact exec_rts_called hstack cost target

end Sys2Proof.Machine
end

section
/-! PROOFS. Flag, speed, wait and stop instructions, VDC stores and undefined opcodes (43_system.md R301-R311,
R322-R331). -/

namespace Sys2Proof.Machine

variable {s : State}

/-- What the end of every instruction but SET writes: the cost, T and AfterSet (10_state.md R36). -/
theorem finish_eq (c : Nat) (s : State) :
    finish c s =
      .next { s with
        cycles := c, cpu := { s.cpu with p := { s.cpu.p with t := false }, afterSet := false } } := rfl

/-! ### Flags, speed, wait and stop -/

/-- Settles O38: SET ends by itself; each of the others writes its flag, speed or run state, NOP nothing, and
then ends as every instruction does. -/
theorem flagAndModeInstructions : Obligations.FlagAndModeInstructions := by
  intro s p done
  refine ⟨?clc, ?sec, ?cli, ?sei, ?cld, ?sed, ?clv, ?csl, ?csh, ?nop, exec_set s, ?wai, ?stp⟩
  case clc | sec | cli | sei | cld | sed | clv => exact finish_setP _ _ s
  case csl | csh => exact finish_eq _ { s with cpu := { s.cpu with speed := _ } }
  case nop => exact finish_eq _ s
  case wai | stp => exact finish_eq _ { s with cpu := { s.cpu with runState := _ } }

/-! ### VDC stores -/

@[simp] theorem State.portWrite_cpu (s : State) (b : Byte) (q : HwPort) :
    (s.portWrite b q).cpu = s.cpu := by
  cases q <;> rfl

/-- A VDC store is its port's write, with no look at the slots (43_system.md R322-R324). -/
theorem vdcStore_eq (q : HwPort) (nn : Byte) (s : State) :
    vdcStore q nn s =
      .next { s.portWrite nn q with
        cycles := s.params.cyc.vdcStore
        cpu := { s.cpu with p := { s.cpu.p with t := false }, afterSet := false } } := by
  rw [vdcStore, finish_eq, State.portWrite_cpu]

/-- Port 0 selects a register by the low 5 bits written (61_video.md R511). -/
theorem State.portWrite_vdcStatus (s : State) (b : Byte) :
    s.portWrite b .vdcStatus = { s with vdc := { s.vdc with ar := BitVec.ofNat 5 b.toNat } } := rfl

/-- A high-byte write through port 3 requests IRQ1 if the VDC raised it (60_exceptions.md R414). -/
theorem State.portWrite_vdcHigh (s : State) (b : Byte) :
    let w := s.vdc.writeHigh s.params b
    s.portWrite b .vdcHigh =
      { s with
        vdc := w.1
        irq := { s.irq with req := if w.2 then s.irq.req ||| 2 else s.irq.req } } := by
  rw [State.portWrite, State.vdcAct, Irq.raise_irq1]

/-- Settles O40: each store is its port's write. -/
theorem vdcStoresReachPorts : Obligations.VdcStoresReachPorts := by
  intro nn s done w
  refine ⟨?st0, ?st1, ?st2⟩
  case st0 => exact (vdcStore_eq .vdcStatus nn s).trans (by rw [State.portWrite_vdcStatus])
  case st1 => exact vdcStore_eq .vdcLow nn s
  case st2 => exact (vdcStore_eq .vdcHigh nn s).trans (by rw [State.portWrite_vdcHigh])

/-! ### Undefined opcodes -/

/-- An undefined opcode has no effect but the end of an instruction (43_system.md R326). -/
theorem exec_undefined (op : Byte) (s : State) :
    exec (.undefined op) s =
      .next { s with
        cycles := s.params.cyc.undefined
        cpu := { s.cpu with afterSet := false, p := { s.cpu.p with t := false } } } :=
  finish_eq _ s

/-- An undefined opcode in storage is fetched as one byte (30_encoding.md R159). -/
theorem fetchInstr_of_undefined (hpc : (s.place s.cpu.pc).isStorage = true)
    (hop : s.byteAt (s.place s.cpu.pc) ∈ undefinedOpcodes) :
    fetchInstr s = (.undefined (s.byteAt (s.place s.cpu.pc)), s.setPc (s.cpu.pc + 1)) := by
  rw [fetchInstr, fetch_of_isStorage hpc, formatOf_of_mem_undefinedOpcodes hop]
  rfl

/-- The instruction step on an undefined opcode in storage: PC past its byte, its end, the device advance
(60_exceptions.md R425, R460). -/
theorem instrStep_of_undefined (hpc : (s.place s.cpu.pc).isStorage = true)
    (hop : s.byteAt (s.place s.cpu.pc) ∈ undefinedOpcodes) :
    instrStep s =
      .next (State.advance s.params.cyc.undefined
        { s with
          cycles := s.params.cyc.undefined
          cpu :=
            { s.cpu with
              pc := s.cpu.pc + 1, afterSet := false, p := { s.cpu.p with t := false } } }) := by
  simp only [instrStep, fetchInstr_of_undefined hpc hop, exec_undefined]
  rfl

/-- Settles O10: the step fetches the opcode alone and ends. Dropping the sound writes of the step before, as
every step does first, changes no byte of memory. -/
theorem undefinedOpcodesAreNoOps : Obligations.UndefinedOpcodesAreNoOps := by
  refine ⟨rfl, rfl, exec_undefined, fun s hrun hnone hpc hop => ?_⟩
  have hbyte (pl : Place) : State.byteAt { s with psgWrites := [] } pl = s.byteAt pl := by
    cases pl <;> rfl
  rw [step_of_running hrun hnone]
  exact instrStep_of_undefined hpc ((hbyte _).symm ▸ hop)

end Sys2Proof.Machine
end

section
/-! PROOFS. What the block transfers do: the iterations in order, the three stack bytes, and the bytes TII
copies (44_block_transfer.md R340-R346). -/

namespace Sys2Proof.Machine

variable {s t : State}

/-! ### The stack bytes -/

/-- A stack byte left is one write of a free value, whatever has been drawn before. -/
theorem residueAt_withDraws (sp : Byte) (k : Nat) (s : State) :
    residueAt sp { s with draws := k } =
      { memWrite (stackAddr sp) (Config.blockResidue k) s with draws := k + 1 } :=
  memWrite_withDraws s (k + 1) (stackAddr sp) (Config.blockResidue k)

/-- The stack bytes left are three writes of free values, from S down (44_block_transfer.md R340). -/
theorem leaveResidue_eq (s : State) :
    leaveResidue s =
      { memWrite (stackAddr (s.cpu.sp - 2)) (Config.blockResidue (s.draws + 2))
          (memWrite (stackAddr (s.cpu.sp - 1)) (Config.blockResidue (s.draws + 1))
            (memWrite (stackAddr s.cpu.sp) (Config.blockResidue s.draws) s)) with
        draws := s.draws + 3 } := by
  have htop : residueAt s.cpu.sp s = _ := residueAt_withDraws s.cpu.sp s.draws s
  rw [leaveResidue, htop, residueAt_withDraws _ (s.draws + 1), residueAt_withDraws _ (s.draws + 1 + 1)]

/-- Settles O41: each of the five is one loop, whose fold over its iterations is the one stated, and then
three writes of free values. The loop moves no register, so S is still the one before the transfer. -/
theorem blockTransfersIterate : Obligations.BlockTransfersIterate := by
  intro src dst len s i sa da hform n u
  obtain ⟨st, dt, rfl, rfl, hblock⟩ := exec_of_mem_blockForms hform
  have hcount : blockCount len = n := blockCount_eq len
  have hloop : blockLoop st dt src dst n 0 s = u := by
    rw [blockLoop_eq_foldl, ← List.range_eq_range']
  have hcpu : u.cpu = s.cpu := hloop ▸ blockLoop_cpu st dt src dst n 0 s
  refine ⟨Config.blockResidue u.draws, Config.blockResidue (u.draws + 1),
    Config.blockResidue (u.draws + 2), u.draws + 3, ?_⟩
  rw [hblock, blockTransfer, hcount, hloop, leaveResidue_eq]
  simp only [finish, State.endWith, memWrite_cpu, hcpu]

/-! ### The bytes copied -/

/-- The first m iterations, then the n after them. -/
theorem blockLoop_add (st dt : BlockStep) (src dst : Word) (m n k : Nat) (s : State) :
    blockLoop st dt src dst (m + n) k s =
      blockLoop st dt src dst n (k + m) (blockLoop st dt src dst m k s) := by
  simp only [blockLoop_eq_foldl, ← List.foldl_append, List.range'_append_1]

/-- The iteration that alone writes to a place of work RAM leaves there the byte its source held at the
start, if no iteration before it wrote to that source. -/
theorem blockLoop_copies {st dt : BlockStep} {src dst : Word} {n k w : Nat} (hk : k < n)
    (hmem : s.memOk = true) (halias : s.params.mprAlias = none)
    (hstorage : (s.place (st.addr src k)).isStorage = true)
    (hdst : s.place (dt.addr dst k) = .wram w)
    (honly : ∀ j < n, j ≠ k → s.place (dt.addr dst j) ≠ .wram w)
    (hsrc : ∀ j < k, s.place (dt.addr dst j) ≠ s.place (st.addr src k)) :
    (blockLoop st dt src dst n 0 s).byteAt (.wram w) = s.byteAt (s.place (st.addr src k)) := by
  obtain ⟨m, rfl⟩ : ∃ m, n = k + (m + 1) := ⟨n - k - 1, by omega⟩
  generalize hu : blockLoop st dt src dst k 0 s = u
  have before (pl : Place) (h : ∀ j < k, s.place (dt.addr dst j) ≠ pl) : Spares pl s u :=
    hu ▸ blockLoop_spares st dt src dst k 0 halias fun j _ hj => h j (by omega)
  have hsource := before _ hsrc
  have htarget := before (.wram w) fun j hj => honly j (by omega) (by omega)
  have hread : memRead (st.addr src k) u = (s.byteAt (s.place (st.addr src k)), u) := by
    rw [memRead_of_isStorage (hsource.place _ ▸ hstorage), hsource.place, hsource.byte]
  have hplace : u.place (dt.addr dst k) = .wram w := (htarget.place _).trans hdst
  have halias' : u.params.mprAlias = none := htarget.params ▸ halias
  have hmem' : u.memOk = true := hu ▸ (blockLoop_orderly st dt src dst k 0 s).memOk hmem
  rw [blockLoop_add, Nat.zero_add, hu, blockLoop, hread]
  generalize s.byteAt (s.place (st.addr src k)) = b
  have hwritten : (memWrite (dt.addr dst k) b u).byteAt (.wram w) = b :=
    hplace ▸ byteAt_memWrite_same u (.inl hplace) hmem' b
  refine (blockLoop_spares st dt src dst m (k + 1) ?_ fun j hlow hhigh => ?_).byte.trans hwritten
  · rwa [memWrite_params]
  · rw [memWrite_place (State.place_ne_mprAlias halias' _), htarget.place]
    exact honly j (by omega) (by omega)

/-- What follows the loop spares a place that none of the three stack addresses leads to. -/
theorem blockTransfer_sparesAfterLoop {st dt : BlockStep} {src dst len : Word} {pl : Place}
    (halias : s.params.mprAlias = none)
    (hstack : ∀ j < 3, s.place (stackAddr (s.cpu.sp - BitVec.ofNat 8 j)) ≠ pl)
    (h : blockTransfer st dt src dst len s = .next t) :
    Spares pl (blockLoop st dt src dst (blockCount len) 0 s) t := by
  obtain rfl := Host.Outcome.next.inj h
  have hslots : Spares (.port (.mprAlias 0)) s (blockLoop st dt src dst (blockCount len) 0 s) :=
    blockLoop_spares st dt src dst _ 0 halias fun _ _ _ => State.place_ne_mprAlias halias _ 0
  refine (leaveResidue_spares (hslots.params ▸ halias) fun j hj => ?_).trans
    (State.spares_endWith _ _ _ _)
  rw [hslots.place, blockLoop_cpu]
  exact hstack j hj

/-- Settles O43: each iteration's byte is copied, for no other one writes to its destination and none to
its source, and the stack bytes left after the loop lie elsewhere. -/
theorem blockTransferCopies : Obligations.BlockTransferCopies := by
  intro src dst len s t w hmem halias hexec n sp hstorage hdst hinj hdisjoint hstack k hk
  have hcount : blockCount len = n := blockCount_eq len
  have hafter : Spares (.wram (w k)) (blockLoop .inc .inc src dst n 0 s) t :=
    hcount ▸ blockTransfer_sparesAfterLoop halias (hstack k hk) hexec
  have hne (j : Nat) (hj : j < n) {pl : Place} (h : .wram (w j) ≠ pl) :
      s.place (BlockStep.inc.addr dst j) ≠ pl := fun e => h ((hdst j hj).symm.trans e)
  have hcopied : (blockLoop .inc .inc src dst n 0 s).byteAt (.wram (w k)) = s.byteAt (sp k) :=
    blockLoop_copies hk hmem halias (hstorage k hk) (hdst k hk)
      (fun j hj hjk => hne j hj fun e => hjk (hinj j hj k hk (Place.wram.inj e)))
      (fun j hj => hne j (hj.trans hk) (hdisjoint k hk j (hj.trans hk)).symm)
  exact hafter.byte.trans hcopied

end Sys2Proof.Machine
end

section
/-! PROOFS. The source taken, and the status events of the VDC (60_exceptions.md R402, R414, 61_video.md
R520, R521). -/

namespace Sys2Proof.Machine

/-- A request vectors if it is pending and not disabled (60_exceptions.md R402). -/
theorem Irq.live_iff (q : Irq) (n : Nat) :
    q.live n = true ↔ q.req.getLsbD n = true ∧ q.mask.getLsbD n = false := by
  simp [Irq.live]

/-- With I = 1 no maskable request vectors. -/
theorem chosen_of_disabled {s : State} (hi : s.cpu.p.i = true) :
    chosen s = if s.cpu.nmiPending = true then some .nmi else none := by
  simp [chosen, hi]

/-- With I = 0 the first live request in the order Timer, IRQ1, IRQ2 vectors, after NMI. -/
theorem chosen_of_enabled {s : State} (hi : s.cpu.p.i = false) :
    chosen s =
      if s.cpu.nmiPending = true then some .nmi
      else if s.irq.live 2 = true then some .timer
      else if s.irq.live 1 = true then some .irq1
      else if s.irq.live 0 = true then some .irq2
      else none := by
  simp [chosen, hi]

/-- BRK is an instruction, never a source to take. -/
theorem chosen_ne_brk (s : State) : chosen s ≠ some .brk := by
  unfold chosen
  repeat' split
  all_goals simp

/-- Settles O12, by the flag I: with I = 1 NMI alone is left, with I = 0 the order is the live
requests'. -/
theorem interruptPriorityOrder : Obligations.InterruptPriorityOrder := by
  intro s
  cases hi : s.cpu.p.i with
  | true => rw [chosen_of_disabled hi, if_pos rfl]
  | false => simp only [chosen_of_enabled hi, Irq.live_iff, Bool.false_eq_true, if_false]

/-! ### The VDC's events -/

/-- An event answers its enable, and sets its status bit exactly if that is set (61_video.md R521). -/
theorem Vdc.raise_eq (v : Vdc) (e : VdcEvent) :
    v.raise e =
      ({ v with st := if v.enabled e then v.st ||| BitVec.ofNat 6 (2 ^ e.bit) else v.st },
        v.enabled e) := by
  have hbit : 1#6 <<< e.bit = BitVec.ofNat 6 (2 ^ e.bit) := by cases e <;> rfl
  unfold Vdc.raise
  split
  · next h => rw [hbit, h]
  · next h => rw [Bool.eq_false_of_not_eq_true h]

/-- A VDC action stores the VDC it answers, and requests IRQ1 if it raised it (60_exceptions.md R414). -/
theorem State.vdcAct_eq (s : State) (r : Vdc × Bool) :
    s.vdcAct r =
      { s with
        vdc := r.1, irq := { s.irq with req := if r.2 then s.irq.req ||| 2 else s.irq.req } } := by
  rw [State.vdcAct, Irq.raise_irq1]

/-- A status read answers the bits and clears them; the request stays (61_video.md R520). -/
theorem State.readPlace_vdcStatus (s : State) :
    s.readPlace (.port .vdcStatus) =
      (BitVec.ofNat 8 s.vdc.st.toNat, { s with vdc := { s.vdc with st := 0 } }) := by
  rw [BitVec.ofNat_toNat]
  rfl

/-- Settles O52: each event by its bit and enable, then the action and the status read. -/
theorem vdcStatusEvents : Obligations.VdcStatusEvents := by
  refine ⟨fun v e k en h => ?_, State.vdcAct_eq, State.readPlace_vdcStatus⟩
  suffices hevent : e.bit = k ∧ v.enabled e = en by
    obtain ⟨rfl, rfl⟩ := hevent
    exact v.raise_eq e
  simp only [List.mem_cons, List.not_mem_nil, or_false, Prod.mk.injEq] at h
  obtain ⟨rfl, rfl, rfl⟩ | ⟨rfl, rfl, rfl⟩ | ⟨rfl, rfl, rfl⟩ | ⟨rfl, rfl, rfl⟩ | ⟨rfl, rfl, rfl⟩
    | ⟨rfl, rfl, rfl⟩ := h <;> exact ⟨rfl, rfl⟩

end Sys2Proof.Machine
end

section
/-! PROOFS. Reset and load (60_exceptions.md R440, 70_reset_and_hazards.md R600-R607). -/

namespace Sys2Proof.Machine

/-! ### Reset -/

theorem primeStack_orderly (bs : List Byte) (sp : Byte) (s : State) :
    Orderly s (primeStack bs sp s) := by
  induction bs generalizing sp s with
  | nil => exact .refl s
  | cons b bs ih => exact (memWrite_orderly _ b s).trans (ih _ _)

theorem bootPrime_orderly (s : State) : Orderly s (bootPrime s) := by
  unfold bootPrime
  split
  · exact (s.setSp_orderly _).trans (primeStack_orderly _ _ _)
  · exact .refl s

/-- Of ROM the reset sequence only reads the vector. -/
@[simp] theorem resetSequence_rom (u : Nat → Word) (s : State) : (resetSequence u s).rom = s.rom := by
  rw [resetSequence, State.setPc_rom, read16_rom, (bootPrime_orderly _).rom]

@[simp] theorem resetSequence_params (u : Nat → Word) (s : State) :
    (resetSequence u s).params = s.params := by
  rw [resetSequence, State.setPc_params, read16_params, (bootPrime_orderly _).params]

/-! ### The image in ROM -/

/-- Nothing lies before the first byte of an image placed from key k on. -/
theorem Memory.get_ofBytes_of_lt {k j : Nat} (h : j < k) (bs : List Byte) :
    (Memory.ofBytes bs k).get j = unlistedByte := by
  induction bs generalizing k with
  | nil => rfl
  | cons b bs ih =>
    have hrest := ih (k := k + 1) (by omega)
    unfold Memory.ofBytes
    split
    · exact hrest
    · exact (if_neg (by omega)).trans hrest

/-- An image placed from key k on reads back byte for byte, the bytes equal to the unlisted one too. -/
theorem Memory.get_ofBytes_add (bs : List Byte) (k : Nat) {i : Nat} (h : i < bs.length) :
    (Memory.ofBytes bs k).get (k + i) = bs[i] := by
  induction bs generalizing k i with
  | nil => exact absurd h (Nat.not_lt_zero i)
  | cons b bs ih =>
    unfold Memory.ofBytes
    cases i with
    | zero =>
      split
      · next hb => exact (Memory.get_ofBytes_of_lt (Nat.lt_succ_self k) bs).trans hb.symm
      · exact if_pos rfl
    | succ i =>
      have hrest := ih (k + 1) (Nat.lt_of_succ_lt_succ h)
      rw [Nat.add_right_comm] at hrest
      split
      · exact hrest
      · exact (if_neg (by omega)).trans hrest

/-- What a load that is not refused answers (70_reset_and_hazards.md R606). -/
theorem powerOn_eq_ok {u : Nat → Word} {p : Params} {image : List Byte} {t : State}
    (h : powerOn u p image = .ok t) :
    8192 ≤ image.length ∧
      t = resetSequence u (beforeReset { p with romBanks := image.length / 8192 } image) := by
  unfold powerOn at h
  split at h
  · cases h
  · next hlen =>
    split at h
    · cases h
    · cases h
      exact ⟨Nat.le_of_not_lt hlen, rfl⟩

/-- Settles O58: the sequence keeps ROM and the parameters of the machine it starts from, and a load starts it
from the image. -/
theorem resetKeepsCartridge : Obligations.ResetKeepsCartridge := by
  refine ⟨fun s u => ?_, fun u p image => ⟨fun hbanks => if_pos (by omega), fun t ht => ?_⟩⟩
  · exact ⟨resetSequence_rom u s, resetSequence_params u s, resetSequence_rom _ _,
      resetSequence_params _ _⟩
  · obtain ⟨hlen, rfl⟩ := powerOn_eq_ok ht
    refine ⟨resetSequence_params u _, ?_, fun k hk => ?_⟩
    · rw [resetSequence_params]
      exact (Nat.one_le_div_iff (by decide)).2 hlen
    · rw [resetSequence_rom]
      exact (congrArg _ (Nat.zero_add k).symm).trans (Memory.get_ofBytes_add image 0 hk)

end Sys2Proof.Machine
end

section
/-! PROOFS. The device advance: the timer as a count of ticks, the requests of the three devices
(60_exceptions.md R414, R415, R420-R428). -/

namespace Sys2Proof.Machine

/-! ### The timer -/

/-- How many ticks the timer takes from a count down to its underflow, 0 standing for 128
(60_exceptions.md R428). -/
def Timer.span (c : BitVec 7) : Nat := if c = 0 then 128 else c.toNat

theorem Timer.span_pos (c : BitVec 7) : 0 < Timer.span c := by
  unfold Timer.span
  split
  · decide
  · bv_omega

/-- Ticks from the reload value on: the count goes round once every `span` ticks. -/
theorem Timer.ticks_of_reloaded (m : Nat) (t : Timer) (h : t.counter = t.reload) :
    (Timer.ticks m t).1 =
      { t with counter := t.reload - BitVec.ofNat 7 (m % Timer.span t.reload) } := by
  induction m using Nat.strongRecOn with
  | ind m ih =>
    obtain hlt | hge := Nat.lt_or_ge m (Timer.span t.reload)
    · rw [Nat.mod_eq_of_lt hlt, Timer.ticks_of_lt m t (h ▸ hlt), h]
    · have hround : Timer.ticks (Timer.span t.reload) t = (t, true) := by
        rw [← h]
        exact t.ticks_underflow.trans (congrArg (fun c => ({ t with counter := c }, true)) h.symm)
      have hpos := Timer.span_pos t.reload
      obtain ⟨r, rfl⟩ := Nat.exists_eq_add_of_le hge
      rw [Timer.ticks_add, hround, Nat.add_mod_left]
      exact ih r (by omega)

/-- Ticks up to the underflow and past it: the count is reloaded there, and a request is made. -/
theorem Timer.ticks_of_le {n : Nat} {t : Timer} (h : Timer.span t.counter ≤ n) :
    Timer.ticks n t =
      ({ t with
          counter :=
            t.reload - BitVec.ofNat 7 ((n - Timer.span t.counter) % Timer.span t.reload) },
        true) := by
  have hunder : Timer.ticks (Timer.span t.counter) t = ({ t with counter := t.reload }, true) :=
    t.ticks_underflow
  obtain ⟨r, rfl⟩ := Nat.exists_eq_add_of_le h
  rw [Timer.ticks_add, hunder, Nat.add_sub_cancel_left, Timer.ticks_of_reloaded r _ rfl]
  rfl

theorem Timer.advance_of_disabled {t : Timer} (h : t.enabled = false) (mc : Nat) :
    t.advance mc = (t, false) := by
  simp [Timer.advance, h]

section Enabled

variable {t : Timer} {mc n : Nat} (h : t.enabled = true) (hn : (t.prescale + mc) / 3072 = n)
include h hn

/-- An enabled timer counts down by the whole ticks in its master clocks (60_exceptions.md R426). -/
theorem Timer.advance_of_lt (hlt : n < Timer.span t.counter) :
    t.advance mc =
      ({ t with
          prescale := (t.prescale + mc) % 3072, counter := t.counter - BitVec.ofNat 7 n },
        false) := by
  rw [Timer.advance, if_pos h, hn]
  exact Timer.ticks_of_lt n _ hlt

/-- An enabled timer that underflows goes on from its reload value, and requests (60_exceptions.md R426,
R427). -/
theorem Timer.advance_of_le (hle : Timer.span t.counter ≤ n) :
    t.advance mc =
      ({ t with
          prescale := (t.prescale + mc) % 3072
          counter :=
            t.reload - BitVec.ofNat 7 ((n - Timer.span t.counter) % Timer.span t.reload) },
        true) := by
  rw [Timer.advance, if_pos h, hn]
  exact Timer.ticks_of_le hle

end Enabled

/-! ### Requests -/

@[simp] theorem Irq.raise_mask (q : Irq) (n : Nat) (b : Bool) : (q.raise n b).mask = q.mask := by
  cases b <;> rfl

/-- A raise sets its own request bit, where its condition holds, and no other. -/
theorem Irq.getLsbD_raise (q : Irq) (n : Fin 3) (b : Bool) (j : Fin 3) :
    (q.raise n b).req.getLsbD j = (q.req.getLsbD j || (decide (j = n) && b)) := by
  have hbit : ∀ n j : Fin 3, (1#3 <<< n.val).getLsbD j = decide (j = n) := by decide
  cases b with
  | false => simp [Irq.raise]
  | true => simp only [Irq.raise, if_true, BitVec.getLsbD_or, hbit, Bool.and_true]

/-! ### The advance -/

theorem Speed.clocks_eq (v : Speed) : v.clocks = if v = .high then 3 else 12 := by
  cases v <;> rfl

/-- The master clocks of an advance by c cycles (60_exceptions.md R420). -/
def State.masterClocks (s : State) (c : Nat) : Nat := c * (if s.cpu.speed = .high then 3 else 12)

/-- The clocks the VDC is advanced by, in the unit of VDC_TIME_UNIT (60_exceptions.md R425). -/
def State.vdcClocks (s : State) (c : Nat) : Nat :=
  if s.params.vdcTimeUnit = .rawCycles then 3 * c else s.masterClocks c

/-- The three devices' parts side by side: each starts from what it finds in s, and raises its own
request. -/
theorem State.advance_eq (s : State) (c : Nat) :
    let timer := s.timer.advance (s.masterClocks c)
    let vdc := s.vdc.advance s.params s.vce.palette (s.vdcClocks c)
    s.advance c =
      { s with
        timer := timer.1, vdc := vdc.1, draws := s.draws + 1
        irq := ((s.irq.raise 2 timer.2).raise 0 (Config.psgRaises s.draws)).raise 1 vdc.2 } := by
  have hvdc : s.vdcClocks c =
      match s.params.vdcTimeUnit with
      | .master => s.masterClocks c
      | .rawCycles => 3 * c := by
    unfold State.vdcClocks
    cases s.params.vdcTimeUnit <;> rfl
  rw [hvdc, State.masterClocks, ← Speed.clocks_eq]
  rfl

/-- Three raises of the three requests set each by its own condition. -/
theorem Irq.raise_all (q : Irq) (timer psg vdc : Bool) :
    let r := ((q.raise 2 timer).raise 0 psg).raise 1 vdc
    r = { q with req := r.req } ∧ r.req.getLsbD 0 = (q.req.getLsbD 0 || psg) ∧
      r.req.getLsbD 1 = (q.req.getLsbD 1 || vdc) ∧
      r.req.getLsbD 2 = (q.req.getLsbD 2 || timer) := by
  have hmask : (((q.raise 2 timer).raise 0 psg).raise 1 vdc).mask = q.mask := by simp
  have hbit (j : Fin 3) := (((q.raise 2 timer).raise 0 psg).getLsbD_raise 1 vdc j).trans
    (congrArg (· || _) (((q.raise 2 timer).getLsbD_raise 0 psg j).trans
      (congrArg (· || _) (q.getLsbD_raise 2 timer j))))
  refine ⟨by rw [← hmask], ?_, ?_, ?_⟩
  · simpa using hbit 0
  · simpa using hbit 1
  · simpa using hbit 2

/-- Settles O47: the requests bit by bit, and the timer's count by whether it underflows. -/
theorem deviceAdvance : Obligations.DeviceAdvance := by
  intro s c mc n k period v t
  have ht : t = _ := s.advance_eq c
  obtain ⟨honly, hpsg, hvdc, htimer⟩ := s.irq.raise_all (s.timer.advance mc).2
    (Config.psgRaises s.draws) v.2
  have hreq : t.irq = ((s.irq.raise 2 (s.timer.advance mc).2).raise 0
    (Config.psgRaises s.draws)).raise 1 v.2 := by rw [ht]; rfl
  have hcount : t.timer = (s.timer.advance mc).1 := by rw [ht]; rfl
  rw [← hreq] at honly hpsg hvdc htimer
  refine ⟨?_, hpsg, hvdc, fun hoff => ?_, fun hon => ?_⟩
  · rw [← honly, hreq, hcount]
    exact ht
  · rw [hcount, htimer, Timer.advance_of_disabled hoff, Bool.or_false]
    exact ⟨rfl, rfl⟩
  · rw [hcount, htimer]
    obtain hlt | hle := Nat.lt_or_ge n k
    · rw [Timer.advance_of_lt hon rfl hlt]
      exact ⟨hon, rfl, rfl, fun _ => ⟨rfl, Bool.or_false _⟩, fun hle => absurd hle (Nat.not_le.2 hlt)⟩
    · rw [Timer.advance_of_le hon rfl hle]
      exact ⟨hon, rfl, rfl, fun hlt => absurd hle (Nat.not_le.2 hlt), fun _ => ⟨rfl, Bool.or_true _⟩⟩

end Sys2Proof.Machine
end

section
/-! PROOFS. The kinds of step: every step completes, an idle step is the device advance alone, an interrupt
step is the entry and the device advance (60_exceptions.md R400-R406, R460). -/

namespace Sys2Proof.Machine

variable {s t u : State}

/-! ### What the device advance leaves -/

@[simp] theorem State.advance_irqMask (s : State) (c : Nat) : (s.advance c).irq.mask = s.irq.mask := by
  simp only [State.advance_eq, Irq.raise_mask]

/-- The device advance moves no byte of memory: the devices have their own storage. -/
theorem State.advance_memoryKept (s : State) (c : Nat) : MemoryKept s (s.advance c) := by
  intro pl
  cases pl <;> rfl

/-- Nor does it look at the cycle output. -/
theorem State.advance_withCycles (s : State) (c n : Nat) :
    State.advance c { s with cycles := n } = { s.advance c with cycles := n } := rfl

/-! ### Every step completes -/

/-- The instruction step is an orderly move and then the device advance (60_exceptions.md R460). -/
theorem exists_instrStep (s : State) :
    ∃ u : State, instrStep s = .next (u.advance u.cycles) ∧ u.rom = s.rom ∧ u.params = s.params := by
  have hfetch := fetchInstr_orderly s
  obtain ⟨u, hexec, -, -, hrom, hparams⟩ :=
    everyInstructionCompletes (fetchInstr s).1 (fetchInstr s).2
  refine ⟨u, ?_, hrom.trans hfetch.rom, hparams.trans hfetch.params⟩
  simp only [instrStep, hexec]

theorem interruptStep_rom (src : Source) (s : State) : (interruptStep src s).rom = s.rom := by
  rw [interruptStep, State.advance_rom]
  exact (enterVector_orderly src s).rom

theorem interruptStep_params (src : Source) (s : State) :
    (interruptStep src s).params = s.params := by
  rw [interruptStep, State.advance_params]
  exact (enterVector_orderly src s).params

theorem step_completes (s : State) : Completes s := by
  have hinstr (w : State) : ∃ t, instrStep w = .next t :=
    have ⟨u, hu, _⟩ := exists_instrStep w
    ⟨_, hu⟩
  unfold Completes step
  dsimp only
  split
  · exact ⟨_, rfl⟩
  · exact ⟨_, rfl⟩
  · split
    · exact ⟨_, rfl⟩
    · exact hinstr _

/-- Settles O7: a step completes, and each of the three kinds is a move that keeps ROM and the parameters,
followed by the device advance. -/
theorem stepNeverFaults : Obligations.StepNeverFaults := by
  intro s
  obtain ⟨t, h⟩ := step_completes s
  refine ⟨t, h, ?_⟩
  obtain ⟨-, rfl⟩ | ⟨-, -, src, -, rfl⟩ | ⟨-, -, hinstr⟩ := step_cases s h
  case inl => exact ⟨rfl, rfl⟩
  case inr.inl => exact ⟨interruptStep_rom src _, interruptStep_params src _⟩
  case inr.inr =>
    obtain ⟨u, hu, hrom, hparams⟩ := exists_instrStep
      { s with psgWrites := [], cpu := { s.cpu with runState := .running } }
    obtain rfl := Host.Outcome.next.inj (hu.symm.trans hinstr)
    exact ⟨hrom, hparams⟩

/-! ### The idle step -/

/-- A stopped CPU, and a waiting one with nothing to take, idles (60_exceptions.md R406). -/
theorem step_of_idle
    (h : s.cpu.runState = .stopped ∨ (s.cpu.runState = .waiting ∧ chosen s = none)) :
    step s = .next (idleStep { s with psgWrites := [] }) := by
  have hchosen : chosen { s with psgWrites := [] } = chosen s := rfl
  obtain hstop | ⟨hwait, hnone⟩ := h
  · simp only [step, hstop]
  · simp only [step, hwait, hchosen, hnone]

/-- Settles O11: the idle step is the device advance with 0 for its cycles, and the advance leaves the CPU,
the slots, the joypad port, the colour encoder, the interrupt mask and memory alone. -/
theorem idleStepKeepsCpu : Obligations.IdleStepKeepsCpu := by
  intro s h
  refine ⟨_, step_of_idle h, rfl, rfl, rfl, rfl, rfl, State.advance_irqMask _ _, ?_,
    State.advance_withCycles _ _ _⟩
  exact fun pl => (State.advance_memoryKept _ _ pl).trans (by cases pl <;> rfl)

/-! ### The interrupt step -/

/-- A CPU that is not stopped takes its chosen source, unless the instruction before was SET
(60_exceptions.md R402, R460). -/
theorem step_of_source {src : Source}
    (hrun : s.cpu.runState = .waiting ∨ s.cpu.runState = .running)
    (hset : s.cpu.afterSet = false) (hsource : chosen s = some src) :
    step s =
      .next (interruptStep src
        { s with psgWrites := [], cpu := { s.cpu with runState := .running } }) := by
  have hchosen : chosen { s with psgWrites := [] } = chosen s := rfl
  obtain hrun | hrun := hrun
  · simp only [step, hrun, hchosen, hsource, hset]
  · simp only [step, hrun, hchosen, hsource, hset]

theorem entryPushed_withRunState (b : Bool) (r : RunState) (s : State) :
    entryPushed b { s with cpu := { s.cpu with runState := r } } =
      { entryPushed b s with cpu := { s.cpu with runState := r } } := by
  simp only [entryPushed, memWrite_withCpu]

/-- An entry by the word w it reads from the vector. It is the same from a waiting CPU as from a running one:
neither the bus nor the clearing of the request looks at RunState (60_exceptions.md R405). -/
theorem interruptEntry_of_read {src : Source} {w : Word} (r : RunState)
    (hread : read16 src.vector ((entryPushed (decide (src = .brk)) s).clearRequest src) = (w, u)) :
    interruptEntry src { s with cpu := { s.cpu with runState := r } } =
      { u with
        cycles := s.params.cyc.entry
        cpu :=
          { s.cpu with
            sp := s.cpu.sp - 3, pc := w, runState := .running, afterSet := false
            nmiPending := s.cpu.nmiPending && decide (src ≠ .nmi)
            p := s.cpu.p.onEntry } } := by
  have hparams : u.params = s.params := by
    have h := congrArg (fun v => v.2.params) hread
    simpa [entryPushed] using h.symm
  obtain ⟨c, hread'⟩ : ∃ c : Cpu, read16 src.vector
      ((entryPushed (decide (src = .brk)) { s with cpu := { s.cpu with runState := r } }).clearRequest
        src) = (w, { u with cpu := c }) :=
    ⟨_, by rw [entryPushed_withRunState, State.clearRequest_withCpu, read16_withCpu, hread]⟩
  rw [interruptEntry, enterVector_of_read hread']
  simp only [hparams]

/-- Settles O13: the entry is three writes, the request cleared and the vector's two reads; what follows is
the device advance, which moves no byte. -/
theorem interruptEntryStep : Obligations.InterruptEntryStep := by
  intro s src hrun hset hsource s0 s1 s2 s3 s4 vector lo hi t
  have hpushed : entryPushed (decide (src = .brk)) s0 = s3 := by
    have hbrk : src ≠ .brk := fun h => chosen_ne_brk s (h ▸ hsource)
    rw [decide_eq_false hbrk]
    rfl
  have hkept : MemoryKeptBut _ s s3 := entryPushed_memoryKeptBut false s0
  clear_value s3
  have hclear : s3.clearRequest src = { s4 with cpu := (s3.clearRequest src).cpu } := by
    cases src <;> rfl
  have hs4 : s4 = { s3 with irq := s4.irq } := by cases src <;> rfl
  have hcleared := hkept.congr (u := { s3 with irq := s4.irq }) rfl rfl rfl rfl
  rw [← hs4] at hcleared
  have hvector : src.vector = vector := by cases src <;> rfl
  have hnext : read16 vector s4 = (hi.1 ++ lo.1, hi.2) := read16_of_next rfl s4
  have hreads : ReadsOnly s4 hi.2 := (memRead_readsOnly _ s4).trans (memRead_readsOnly _ lo.2)
  clear_value s4 vector hi
  have hread : read16 src.vector ((entryPushed (decide (src = .brk)) s0).clearRequest src) =
      (hi.1 ++ lo.1, { hi.2 with cpu := (s3.clearRequest src).cpu }) := by
    rw [hpushed, hvector, hclear, read16_withCpu, hnext]
  have hstep := step_of_source hrun hset hsource
  rw [interruptStep, interruptEntry_of_read (s := s0) .running hread] at hstep
  exact ⟨hstep, (hcleared.thenReads hreads).congr rfl rfl rfl rfl⟩

end Sys2Proof.Machine
end

section
/-! PROOFS. What a step of a Running CPU returns: at least 2 cycles with the default costs (60_exceptions.md
R460, 70_reset_and_hazards.md R620). -/

namespace Sys2Proof.Machine

variable {s t : State}

/-! ### Cost classes -/

theorem Addr.two_le_cost (m : Addr) : 2 ≤ m.cost Params.default.cyc := by
  cases m <;> simp [Addr.cost, Params.default]

theorem Operand.two_le_cost (o : Operand) : 2 ≤ o.cost Params.default.cyc := by
  cases o with
  | imm b => exact (by decide : 2 ≤ Params.default.cyc.imm)
  | mem m => exact m.two_le_cost

theorem Addr.two_le_rmwCost (m : Addr) : 2 ≤ m.rmwCost Params.default.cyc := by
  cases m <;> simp [Addr.rmwCost, Params.default]

theorem Addr.two_le_tstCost (m : Addr) : 2 ≤ m.tstCost Params.default.cyc := by
  cases m <;> simp [Addr.tstCost, Params.default]

/-! ### Instructions -/

/-- A meaning that returns at least 2 cycles. -/
def TakesTwo (o : Out) : Prop := ∀ t, o = .next t → 2 ≤ t.cycles

theorem endWith_takesTwo {c : Nat} (h : 2 ≤ c) (b : Bool) (u : State) :
    TakesTwo (.next (u.endWith b c)) := by
  intro t ht
  obtain rfl := Host.Outcome.next.inj ht
  exact h

/-- A block transfer costs BT_BASE and more (44_block_transfer.md R346). -/
theorem blockTransfer_takesTwo (hbase : s.params.btBase = 17) (st dt : BlockStep)
    (src dst len : Word) : TakesTwo (blockTransfer st dt src dst len s) :=
  endWith_takesTwo (by omega) _ _

section DefaultCosts

variable (hcyc : s.params.cyc = Params.default.cyc)
include hcyc

/-- An instruction whose cost is a class of the table. -/
theorem class_takesTwo (f : CycleTable → Nat) (h : 2 ≤ f Params.default.cyc) (b : Bool) (u : State) :
    TakesTwo (.next (u.endWith b (f s.params.cyc))) :=
  endWith_takesTwo (hcyc ▸ h) b u

theorem execAlu_takesTwo (op : AluOp) (o : Operand) : TakesTwo (execAlu op o s) := by
  have hcost : 2 ≤ o.cost s.params.cyc := hcyc ▸ o.two_le_cost
  unfold execAlu
  split
  · exact endWith_takesTwo (by omega) _ _
  · exact endWith_takesTwo (by omega) _ _

theorem branchIf_takesTwo (cond : Bool) (rr : Byte) : TakesTwo (branchIf cond rr s) := by
  unfold branchIf
  split
  · exact class_takesTwo hcyc CycleTable.branchTaken (by decide) _ _
  · exact class_takesTwo hcyc CycleTable.branch (by decide) _ _

theorem bitBranch_takesTwo (i : Nat) (want : Bool) (zz rr : Byte) :
    TakesTwo (bitBranch i want zz rr s) := by
  have htaken : 2 ≤ s.params.cyc.bitBranchTaken := by rw [hcyc]; decide
  unfold bitBranch
  dsimp only
  split
  · exact endWith_takesTwo (by omega) _ _
  · exact class_takesTwo hcyc CycleTable.bitBranch (by decide) _ _

/-- Every instruction takes at least 2 cycles: but for the accumulator operations, the branches and the block
transfers its cost is one class of the table. -/
theorem exec_takesTwo (hbase : s.params.btBase = 17) (i : Instr) : TakesTwo (exec i s) := by
  have hclass := @class_takesTwo s hcyc
  unfold exec
  cases i with
  | oraIndX | oraZp | oraImm | oraAbs | oraIndY | oraInd | oraZpX | oraAbsY | oraAbsX | andIndX
  | andZp | andImm | andAbs | andIndY | andInd | andZpX | andAbsY | andAbsX | eorIndX | eorZp
  | eorImm | eorAbs | eorIndY | eorInd | eorZpX | eorAbsY | eorAbsX | adcIndX | adcZp | adcImm
  | adcAbs | adcIndY | adcInd | adcZpX | adcAbsY | adcAbsX | sbcIndX | sbcZp | sbcImm | sbcAbs
  | sbcIndY | sbcInd | sbcZpX | sbcAbsY | sbcAbsX => exact execAlu_takesTwo hcyc _ _
  | tii | tdd | tin | tia | tai => exact blockTransfer_takesTwo hbase _ _ _ _ _
  | bpl | bmi | bvc | bvs | bcc | bcs | bne | beq => exact branchIf_takesTwo hcyc _ _
  | bbr0 | bbr1 | bbr2 | bbr3 | bbr4 | bbr5 | bbr6 | bbr7 | bbs0 | bbs1 | bbs2 | bbs3 | bbs4
  | bbs5 | bbs6 | bbs7 => exact bitBranch_takesTwo hcyc _ _ _ _
  | cpyImm | cmpIndX | cpyZp | cmpZp | cmpImm | cpyAbs | cmpAbs | cmpIndY | cmpInd | cmpZpX
  | cmpAbsY | cmpAbsX | cpxImm | cpxZp | cpxAbs | bitZp | bitAbs | bitZpX | bitAbsX | bitImm
  | ldaIndX | ldaZp | ldaImm | ldaAbs | ldaIndY | ldaInd | ldaZpX | ldaAbsY | ldaAbsX | ldxImm
  | ldxZp | ldxAbs | ldxZpY | ldxAbsY | ldyImm | ldyZp | ldyAbs | ldyZpX | ldyAbsX =>
    exact hclass (Operand.cost _) (Operand.two_le_cost _) _ _
  | stzZp | stzZpX | staIndX | styZp | staZp | stxZp | styAbs | staAbs | stxAbs | staIndY
  | staInd | styZpX | staZpX | stxZpY | staAbsY | stzAbs | staAbsX | stzAbsX =>
    exact hclass (Addr.cost _) (Addr.two_le_cost _) _ _
  | tstImmZp | tstImmAbs | tstImmZpX | tstImmAbsX =>
    exact hclass (Addr.tstCost _) (Addr.two_le_tstCost _) _ _
  | tsbZp | tsbAbs | trbZp | trbAbs | aslZp | aslAbs | aslZpX | aslAbsX | rolZp | rolAbs
  | rolZpX | rolAbsX | lsrZp | lsrAbs | lsrZpX | lsrAbsX | rorZp | rorAbs | rorZpX | rorAbsX
  | decZp | decAbs | decZpX | decAbsX | incZp | incAbs | incZpX | incAbsX =>
    exact hclass (Addr.rmwCost _) (Addr.two_le_rmwCost _) _ _
  | aslA | incA | rolA | decA | lsrA | rorA | dex | inx | dey | iny | txa | tya | tax | tsx | tay
  | txs | cla | clx | cly | clc | sec | cli | sei | clv | cld | sed | nop | set =>
    exact hclass CycleTable.implied (by decide) _ _
  | rmb0 | rmb1 | rmb2 | rmb3 | rmb4 | rmb5 | rmb6 | rmb7 | smb0 | smb1 | smb2 | smb3 | smb4
  | smb5 | smb6 | smb7 => exact hclass CycleTable.bitOp (by decide) _ _
  | jsr | rts | rti => exact hclass CycleTable.jsr (by decide) _ _
  | bsr => exact hclass CycleTable.bsr (by decide) _ _
  | bra => exact hclass CycleTable.bra (by decide) _ _
  | brk => exact hclass CycleTable.brk (by decide) _ _
  | jmpAbs => exact hclass CycleTable.jmpAbs (by decide) _ _
  | jmpInd | jmpIndX => exact hclass CycleTable.jmpInd (by decide) _ _
  | php | pha | phy | phx => exact hclass CycleTable.push (by decide) _ _
  | plp | pla | plx | ply => exact hclass CycleTable.pull (by decide) _ _
  | st0 | st1 | st2 => exact hclass CycleTable.vdcStore (by decide) _ _
  | sax | say | sxy | csl | csh => exact hclass CycleTable.swap (by decide) _ _
  | tam => exact hclass CycleTable.tam (by decide) _ _
  | tma => exact hclass CycleTable.tma (by decide) _ _
  | wai | stp => exact hclass CycleTable.wait (by decide) _ _
  | undefined => exact hclass CycleTable.undefined (by decide) _ _

theorem instrStep_takesTwo (hbase : s.params.btBase = 17) : TakesTwo (instrStep s) := by
  intro t h
  have hparams := (fetchInstr_orderly s).params
  unfold instrStep at h
  dsimp only at h
  split at h
  · next u hexec =>
    obtain rfl := Host.Outcome.next.inj h
    rw [State.advance_cycles]
    exact exec_takesTwo (hparams ▸ hcyc) (hparams ▸ hbase) _ u hexec
  · cases h
  · cases h

end DefaultCosts

/-! ### Steps -/

theorem interruptStep_cycles (src : Source) (s : State) :
    (interruptStep src s).cycles = s.params.cyc.entry := by
  rw [interruptStep, State.advance_cycles, interruptEntry, (enterVector_orderly src s).params]

/-- Settles O9: a Running CPU does not idle, an entry costs its class, and an instruction step returns what its
instruction costs. -/
theorem runningStepReturnsAtLeastTwo : Obligations.RunningStepReturnsAtLeastTwo := by
  intro s t hrun ⟨hcyc, hbase, _⟩ h
  obtain ⟨hidle, -⟩ | ⟨-, -, src, -, rfl⟩ | ⟨-, -, hinstr⟩ := step_cases s h
  case inl => simp [hrun] at hidle
  case inr.inl =>
    rw [interruptStep_cycles]
    exact le_of_le_of_eq (by decide) (congrArg CycleTable.entry hcyc.symm)
  case inr.inr =>
    refine instrStep_takesTwo ?_ ?_ t hinstr
    · exact hcyc
    · exact hbase

end Sys2Proof.Machine
end

section
/-! PROOFS. Bit fields as arithmetic on the word's number (61_video.md R503), and one write to sparse
storage (log 3). -/

namespace Sys2Proof.Machine

/-- A field of n bits from bit k on. -/
theorem toNat_extractLsb'_eq_div_mod {w : Nat} (x : BitVec w) (k n : Nat) :
    (x.extractLsb' k n).toNat = x.toNat / 2 ^ k % 2 ^ n := by
  rw [BitVec.extractLsb'_toNat, Nat.shiftRight_eq_div_pow]

/-- One bit. -/
theorem getLsbD_eq_decide_div_mod {w : Nat} (x : BitVec w) (k : Nat) :
    x.getLsbD k = decide (x.toNat / 2 ^ k % 2 = 1) := Nat.testBit_eq_decide_div_mod_eq

theorem toNat_getLsbD {w : Nat} (x : BitVec w) (k : Nat) :
    (x.getLsbD k).toNat = x.toNat / 2 ^ k % 2 := Nat.toNat_testBit x.toNat k

/-- Every key after one write. -/
theorem Store.get_set {α : Type} [DecidableEq α] {d : α} {l : Store α} (h : Store.wf d l = true)
    (k : Nat) (x : α) (n : Nat) :
    Store.get d (Store.set d l k x) n = if n = k then x else Store.get d l n := by
  split
  · next hn => exact hn ▸ Store.get_set_same x _ h
  · next hn => exact Store.get_set_other d x hn _

end Sys2Proof.Machine
end

section
/-! PROOFS. The VDC's data ports and VRAM (61_video.md R501, R505, R512-R515). -/

namespace Sys2Proof.Machine

variable {p : Params} {v : Vdc} {r : VdcReg}

/-! ### The selected register -/

theorem Vdc.selected_of_number (h : v.ar.toNat = r.number) : v.selected = some r := by
  unfold Vdc.selected
  rw [h]
  cases r <;> rfl

/-- VWR/VRR has no register of its own. -/
theorem Vdc.ar_ne_two_of_number (h : v.ar.toNat = r.number) : v.ar ≠ 0x02 := by
  intro hdata
  rw [hdata] at h
  cases r <;> exact absurd h (by decide)

theorem Vdc.selected_eq_none (h : ∀ r : VdcReg, v.ar.toNat ≠ r.number) : v.selected = none := by
  have hnum (r : VdcReg) (hr : v.selected = some r) : v.ar.toNat = r.number := by
    unfold Vdc.selected at hr
    split at hr <;> cases hr <;> assumption
  match hsel : v.selected with
  | none => rfl
  | some r => exact absurd (hnum r hsel) (h r)

/-- `Vdc.setReg` sets the register and nothing else. -/
theorem Vdc.registerSet_setReg (v : Vdc) (r : VdcReg) (x : Word) :
    v.RegisterSet r x (v.setReg r x) := by
  cases r <;> exact ⟨fun q => by cases q <;> rfl, rfl⟩

/-- The step of the data addresses by CR bits 12-11 (61_video.md R502). -/
theorem Vdc.inc_eq (v : Vdc) :
    v.inc = BitVec.ofNat 16 ([1, 32, 64, 128].getD (v.cr.toNat / 2048 % 4) 0) := by
  have hfield : (v.cr.extractLsb' 11 2).toNat = v.cr.toNat / 2048 % 4 :=
    toNat_extractLsb'_eq_div_mod v.cr 11 2
  rw [← hfield, Vdc.inc]
  generalize v.cr.extractLsb' 11 2 = f
  revert f
  decide

/-! ### Data writes -/

theorem Vdc.eitherEffect_eq (r : VdcReg) (v : Vdc) :
    v.eitherEffect r = if r = .byr then { v with bgY := BitVec.ofNat 9 v.byr.toNat } else v := by
  cases r <;> rfl

theorem Vdc.highEffect_eq (p : Params) (r : VdcReg) (v : Vdc) :
    v.highEffect p r =
      if r = .marr then ({ v with rLatch := v.vramRead p v.marr }, false)
      else if r = .byr then ({ v with bgY := BitVec.ofNat 9 v.byr.toNat }, false)
      else if r = .lenr then v.vramDma p
      else if r = .dvssr then ({ v with satPending := true }, false)
      else (v, false) := by
  cases r <;> rfl

theorem Vdc.writeLow_of_number (h : v.ar.toNat = r.number) (b : Byte) :
    v.writeLow b = (v.setReg r (hiByte (v.reg r) ++ b)).eitherEffect r := by
  rw [Vdc.writeLow, if_neg (Vdc.ar_ne_two_of_number h), Vdc.selected_of_number h]
  rfl

theorem Vdc.writeHigh_of_number (h : v.ar.toNat = r.number) (b : Byte) :
    v.writeHigh p b = (v.setReg r (b ++ loByte (v.reg r))).highEffect p r := by
  rw [Vdc.writeHigh, if_neg (Vdc.ar_ne_two_of_number h), Vdc.selected_of_number h]
  rfl

/-- Settles O49: the register number selects VRAM, a register set and then its effect, or nothing. -/
theorem vdcDataWrites : Obligations.VdcDataWrites := by
  intro p v b inc
  refine ⟨fun hdata => ⟨if_pos hdata, ?_⟩, fun r hr => ?_, fun hdata hnone => ⟨?_, ?_⟩⟩
  · rw [Vdc.writeHigh, if_pos hdata, Vdc.inc_eq]
    rfl
  · refine ⟨_, _, v.registerSet_setReg r _, v.registerSet_setReg r _, ?_, ?_⟩
    · rw [Vdc.writeLow_of_number hr, Vdc.eitherEffect_eq]
    · rw [Vdc.writeHigh_of_number hr, Vdc.highEffect_eq]
  · rw [Vdc.writeLow, if_neg hdata, Vdc.selected_eq_none hnone]
  · rw [Vdc.writeHigh, if_neg hdata, Vdc.selected_eq_none hnone]

/-! ### VRAM -/

/-- A VRAM write changes the storage of VRAM alone. -/
theorem Vdc.vramWrite_only (v : Vdc) (a x : Word) :
    v.vramWrite p a x = { v with vram := (v.vramWrite p a x).vram } := by
  unfold Vdc.vramWrite
  split <;> rfl

theorem Vdc.wf_vramWrite (h : Store.wf 0 v.vram = true) (a x : Word) :
    Store.wf 0 (v.vramWrite p a x).vram = true := by
  unfold Vdc.vramWrite
  split
  · exact Store.wf_set x _ h
  · exact h

/-- VRAM after a write: the one word, if it lies inside VRAM (61_video.md R505). -/
theorem Vdc.vramAt_vramWrite (h : Store.wf 0 v.vram = true) (a x : Word) (n : Nat) :
    (v.vramWrite p a x).vramAt p n =
      if n = a.toNat ∧ n < p.vramWords then x else v.vramAt p n := by
  unfold Vdc.vramWrite
  by_cases ha : a.toNat < p.vramWords
  · rw [if_pos ha]
    unfold Vdc.vramAt
    dsimp only
    rw [Store.get_set h]
    grind
  · rw [if_neg ha, if_neg]
    rintro ⟨rfl, hn⟩
    exact ha hn

/-! ### Data reads -/

/-- Settles O50: the register number selects the latch, a register or nothing, and a VRAM write is read
back at its own word. -/
theorem vdcDataReads : Obligations.VdcDataReads := by
  intro p v next
  refine ⟨fun hdata => ⟨if_pos hdata, ?_⟩, fun r hr => ?_, fun hdata hnone => ?_, fun a w hwf => ?_⟩
  · rw [Vdc.readHigh, if_pos hdata, Vdc.inc_eq]
  · rw [Vdc.readLow, Vdc.readHigh, if_neg (Vdc.ar_ne_two_of_number hr),
      if_neg (Vdc.ar_ne_two_of_number hr), Vdc.selected_of_number hr]
    exact ⟨rfl, rfl⟩
  · rw [Vdc.readLow, Vdc.readHigh, if_neg hdata, if_neg hdata, Vdc.selected_eq_none hnone]
    exact ⟨rfl, rfl⟩
  · refine ⟨v.vramWrite_only a w, fun x => ?_⟩
    rw [Vdc.vramRead, Vdc.vramAt_vramWrite hwf]
    by_cases hx : p.vramWords ≤ x.toNat
    · rw [if_pos hx, if_neg (by omega), Vdc.vramAt, if_neg (by omega)]
    · simp only [if_neg hx, BitVec.toNat_inj, Nat.lt_of_not_le hx, and_true, Vdc.vramAt, if_true]

end Sys2Proof.Machine
end

section
/-! PROOFS. The two DMAs: the words copied, and all that a run leaves as it was (61_video.md
R530-R533). -/

namespace Sys2Proof.Machine

variable {p : Params} {v : Vdc} {src dst : Nat → Word}

/-! ### The VRAM DMA -/

/-- The first n words of a VRAM DMA, in order: word k goes from `src k` to `dst k` (61_video.md
R531). -/
def Vdc.copyWords (p : Params) (src dst : Nat → Word) (n : Nat) (v : Vdc) : Vdc :=
  (List.range n).foldl (fun w k => w.vramWrite p (dst k) (w.vramRead p (src k))) v

theorem Vdc.copyWords_succ (p : Params) (src dst : Nat → Word) (n : Nat) (v : Vdc) :
    v.copyWords p src dst (n + 1) =
      (v.copyWords p src dst n).vramWrite p (dst n)
        ((v.copyWords p src dst n).vramAt p (src n).toNat) := by
  unfold Vdc.copyWords
  rw [List.range_succ, List.foldl_append]
  rfl

/-- The copy changes the storage of VRAM alone. -/
theorem Vdc.copyWords_only (p : Params) (src dst : Nat → Word) (n : Nat) (v : Vdc) :
    v.copyWords p src dst n = { v with vram := (v.copyWords p src dst n).vram } := by
  induction n with
  | zero => rfl
  | succ n ih =>
    rw [Vdc.copyWords_succ, Vdc.vramWrite_only]
    generalize ((v.copyWords p src dst n).vramWrite p _ _).vram = m
    rw [ih]

theorem Vdc.wf_copyWords (h : Store.wf 0 v.vram = true) (n : Nat) :
    Store.wf 0 (v.copyWords p src dst n).vram = true := by
  induction n with
  | zero => exact h
  | succ n ih =>
    rw [Vdc.copyWords_succ]
    exact Vdc.wf_vramWrite ih _ _

/-- Upwards between disjoint ranges inside VRAM, no word is read after it has been written. -/
theorem Vdc.vramAt_copyWords {a b n : Nat} (hwf : Store.wf 0 v.vram = true)
    (hsrc : ∀ k < n, (src k).toNat = a + k) (hdst : ∀ k < n, (dst k).toNat = b + k)
    (hin : b + n ≤ p.vramWords) (hdisjoint : a + n ≤ b ∨ b + n ≤ a) (x : Nat) :
    (v.copyWords p src dst n).vramAt p x =
      if b ≤ x ∧ x < b + n then v.vramAt p (a + (x - b)) else v.vramAt p x := by
  induction n generalizing x with
  | zero =>
    rw [if_neg (by omega)]
    rfl
  | succ n ih =>
    have hbefore := ih (fun k hk => hsrc k (by omega)) (fun k hk => hdst k (by omega)) (by omega)
      (by omega)
    rw [Vdc.copyWords_succ, Vdc.vramAt_vramWrite (Vdc.wf_copyWords hwf n), hsrc n (by omega),
      hdst n (by omega), hbefore, hbefore, if_neg (show ¬ (b ≤ a + n ∧ a + n < b + n) by omega)]
    obtain rfl | hx := eq_or_ne x (b + n)
    · rw [if_pos (by omega), if_pos (by omega), Nat.add_sub_cancel_left]
    · rw [if_neg (by omega)]
      exact if_congr (by omega) rfl rfl

theorem Vdc.raise_vramDma (v : Vdc) :
    v.raise .vramDma =
      ({ v with st := if v.dcr.getLsbD 1 then v.st ||| 16 else v.st }, v.dcr.getLsbD 1) :=
  v.raise_eq .vramDma

/-- The VRAM DMA is the copy, the registers at their ends, and the event (61_video.md R531). -/
theorem Vdc.vramDma_eq (p : Params) (v : Vdc) :
    let n := v.lenr.toNat + 1
    let stepped (down : Bool) (a : Word) (k : Nat) : Word :=
      if down then a - BitVec.ofNat 16 k else a + BitVec.ofNat 16 k
    let src := stepped (v.dcr.getLsbD 2) v.sour
    let dst := stepped (v.dcr.getLsbD 3) v.desr
    v.vramDma p =
      ({ v with
          vram := (v.copyWords p src dst n).vram, sour := src n, desr := dst n, lenr := 0xFFFF
          lastDmaSrc := v.sour, lastDmaDst := v.desr, lastDmaLen := n
          vramDmaCount := v.vramDmaCount + 1
          st := if v.dcr.getLsbD 1 then v.st ||| 16 else v.st }, v.dcr.getLsbD 1) := by
  intro n stepped src dst
  have hcopy : Vdc.dmaCopy p (v.dcr.getLsbD 2) (v.dcr.getLsbD 3) n v.sour v.desr v =
      (v.copyWords p src dst n, src n, dst n) := Vdc.dmaCopy_eq_foldl p _ _ n v.sour v.desr v
  have honly := v.copyWords_only p src dst n
  rw [Vdc.vramDma, Vdc.raise_vramDma, hcopy]
  generalize (v.copyWords p src dst n).vram = m at honly ⊢
  rw [honly]

/-! ### The SAT DMA -/

theorem Store.wf_foldl_set {α : Type} [DecidableEq α] {d : α} {l : Store α}
    (h : Store.wf d l = true) (f : Nat → α) (n : Nat) :
    Store.wf d ((List.range n).foldl (fun m i => Store.set d m i (f i)) l) = true := by
  induction n with
  | zero => exact h
  | succ n ih =>
    rw [List.range_succ, List.foldl_append]
    exact Store.wf_set _ _ ih

/-- Writing the first n keys in order. -/
theorem Store.get_foldl_set {α : Type} [DecidableEq α] {d : α} {l : Store α}
    (h : Store.wf d l = true) (f : Nat → α) (n j : Nat) :
    Store.get d ((List.range n).foldl (fun m i => Store.set d m i (f i)) l) j =
      if j < n then f j else Store.get d l j := by
  induction n with
  | zero => rfl
  | succ n ih =>
    rw [List.range_succ, List.foldl_append, List.foldl_cons, List.foldl_nil]
    rw [Store.get_set (Store.wf_foldl_set h f n), ih]
    grind

theorem Vdc.raise_satDma (v : Vdc) :
    v.raise .satDma =
      ({ v with st := if v.dcr.getLsbD 0 then v.st ||| 8 else v.st }, v.dcr.getLsbD 0) :=
  v.raise_eq .satDma

/-- The SAT DMA when armed or repeating is the copy, its counters, and the event (61_video.md R533). -/
theorem Vdc.satDma_of_armed (h : v.satPending = true ∨ v.dcr.getLsbD 4 = true) :
    v.satDma p =
      ({ v with
          sat := v.satCopy p, satPending := false, satDmaCount := v.satDmaCount + 1
          lastDmaSrc := v.dvssr, lastDmaLen := 256
          st := if v.dcr.getLsbD 0 then v.st ||| 8 else v.st }, v.dcr.getLsbD 0) := by
  rw [Vdc.satDma, if_pos (Bool.or_eq_true_iff.2 h), Vdc.raise_satDma]

theorem Vdc.satDma_of_idle (hpending : v.satPending = false) (hrepeat : v.dcr.getLsbD 4 = false) :
    v.satDma p = (v, false) := by
  rw [Vdc.satDma, hpending, hrepeat]
  rfl

/-- Settles O51: each DMA as one equation, and its copy read word by word. -/
theorem dmaCopies : Obligations.DmaCopies := by
  refine ⟨fun p v => ?_, fun p v => ⟨Vdc.satDma_of_idle, fun harmed => ?_⟩⟩
  · intro n r stepped src dst copied
    have hr : r = _ := v.vramDma_eq p
    refine ⟨hr, fun hwf hsrc hdst _ hin hsrcEnd hdstEnd hdisjoint a => ?_⟩
    have hup (base : Word) (down : Bool) (hdown : down = false) (hend : base.toNat + n ≤ 65536)
        (k : Nat) (hk : k < n) : (stepped down base k).toNat = base.toNat + k := by
      subst hdown
      change (base + BitVec.ofNat 16 k).toNat = _
      rw [BitVec.toNat_add, BitVec.toNat_ofNat]
      omega
    rw [hr]
    exact Vdc.vramAt_copyWords hwf (hup v.sour _ hsrc hsrcEnd) (hup v.desr _ hdst hdstEnd) hin
      hdisjoint a
  · have hsat : (v.satDma p).1.sat = v.satCopy p := by rw [Vdc.satDma_of_armed harmed]
    refine ⟨?_, fun hwf i => ?_⟩
    · rw [hsat]
      exact Vdc.satDma_of_armed harmed
    · rw [hsat]
      exact Store.get_foldl_set hwf _ 256 i

end Sys2Proof.Machine
end

section
/-! PROOFS. The colour encoder's ports (61_video.md R561-R564). -/

namespace Sys2Proof.Machine

/-! ### The two halves of a 9-bit value -/

/-- A field over a field is the sum of the upper one, shifted, and the lower one. -/
theorem toNat_append_eq_add {m n : Nat} (x : BitVec m) (y : BitVec n) :
    (x ++ y).toNat = x.toNat * 2 ^ n + y.toNat := by
  rw [BitVec.toNat_append, ← Nat.shiftLeft_add_eq_or_of_lt y.isLt, Nat.shiftLeft_eq]

/-- The low byte of a 9-bit value replaced. -/
theorem toNat_withLowByte (c : BitVec 9) (b : Byte) :
    (c.extractLsb' 8 1 ++ b).toNat = c.toNat / 256 * 256 + b.toNat := by
  rw [toNat_append_eq_add, toNat_extractLsb'_eq_div_mod]
  omega

/-- Bit 8 of a 9-bit value replaced. -/
theorem toNat_withBitEight (c : BitVec 9) (b : Byte) :
    (b.extractLsb' 0 1 ++ c.extractLsb' 0 8).toNat = b.toNat % 2 * 256 + c.toNat % 256 := by
  rw [toNat_append_eq_add, toNat_extractLsb'_eq_div_mod, toNat_extractLsb'_eq_div_mod]
  omega

/-- A read of the upper half answers bit 8 under seven bits 1 (61_video.md R562, R564). -/
theorem feOr_bitEight (c : BitVec 9) :
    feOr (c.getLsbD 8) = BitVec.ofNat 8 (254 + c.toNat / 256) := by
  have hc : c.toNat / 256 = 0 ∨ c.toNat / 256 = 1 := by omega
  rw [getLsbD_eq_decide_div_mod]
  change feOr (decide (c.toNat / 256 % 2 = 1)) = _
  obtain hc | hc := hc <;> rw [hc] <;> rfl

/-! ### The palette -/

/-- Writing the entry at CTA leaves every other entry. -/
theorem Vce.get_setEntry {v : Vce} (h : Store.wf 0 v.palette = true) (w : BitVec 9) (n : Nat) :
    Store.get 0 (v.setEntry w).palette n =
      if n = v.cta.toNat then w else Store.get 0 v.palette n :=
  Store.get_set h _ w n

/-- Settles O54: each write replaces one half of CTA or of the entry at CTA, each read shows one. -/
theorem paletteLatch : Obligations.PaletteLatch := by
  intro s b hwf e keeping addrLow addrHigh low high
  have hlow : low.vce.palette = (s.vce.setEntry (e.extractLsb' 8 1 ++ b)).palette := rfl
  have hhigh : high.vce.palette =
      (s.vce.setEntry (b.extractLsb' 0 1 ++ e.extractLsb' 0 8)).palette := rfl
  have hcta : high.vce.cta = s.vce.cta + 1 := rfl
  refine ⟨rfl, rfl, toNat_withLowByte _ b, rfl, toNat_withBitEight _ b, rfl, rfl, ?_, fun n => ?_,
    fun n => ?_, rfl, rfl, ?_, rfl, ?_⟩
  · rw [hcta, BitVec.toNat_add]
    rfl
  · rw [hlow, Vce.get_setEntry hwf, apply_ite BitVec.toNat, toNat_withLowByte]
  · rw [hhigh, Vce.get_setEntry hwf, apply_ite BitVec.toNat, toNat_withBitEight]
  · exact congrArg (·, s) (feOr_bitEight s.vce.cta)
  · exact congrArg (·, keeping { s.vce with cta := s.vce.cta + 1 }) (feOr_bitEight e)

end Sys2Proof.Machine
end

section
/-! PROOFS. Sprite selection (61_video.md R552). -/

namespace Sys2Proof.Machine

/-- The cells of a list of entries. -/
def spriteCells (l : List Sprite) : Nat := (l.map fun e => e.width / 16).sum

/-- The run taken when c cells are in use already: the covering entries begin with it, it fits, and if
entries are left over, the next one does not fit. -/
theorem selectSprites_spec (y : Nat) (es : List Sprite) {c : Nat} (hc : c ≤ 16) :
    let r := selectSprites y es c
    let all := es.filter fun e => e.covers y
    r.1 <+: all ∧ c + spriteCells r.1 ≤ 16 ∧ (r.2 = false → r.1 = all) ∧
      (r.2 = true → ∃ e, r.1 ++ [e] <+: all ∧ 16 < c + spriteCells (r.1 ++ [e])) := by
  induction es generalizing c with
  | nil => exact ⟨List.prefix_rfl, hc, fun _ => rfl, nofun⟩
  | cons e es ih =>
    intro r all
    by_cases hcov : e.covers y = true
    · have hall : all = e :: es.filter fun e => e.covers y := List.filter_cons_of_pos hcov
      by_cases hfull : 16 < c + e.width / 16
      · have hr : r = ([], true) := by simp only [r, selectSprites, if_pos hcov, if_pos hfull]
        rw [hr, hall]
        refine ⟨List.nil_prefix, hc, nofun, fun _ => ⟨e, ⟨_, rfl⟩, ?_⟩⟩
        simpa [spriteCells] using hfull
      · have hr : r = (e :: (selectSprites y es (c + e.width / 16)).1,
            (selectSprites y es (c + e.width / 16)).2) := by
          simp only [r, selectSprites, if_pos hcov, if_neg hfull]
        have hcells (l : List Sprite) :
            c + spriteCells (e :: l) = c + e.width / 16 + spriteCells l :=
          (Nat.add_assoc _ _ _).symm
        obtain ⟨hprefix, hfits, hdone, hmore⟩ := ih (Nat.le_of_not_lt hfull)
        rw [hr, hall]
        refine ⟨List.prefix_cons_inj e |>.2 hprefix, hcells _ ▸ hfits,
          fun h => congrArg (e :: ·) (hdone h), fun h => ?_⟩
        obtain ⟨f, hf, hover⟩ := hmore h
        exact ⟨f, List.prefix_cons_inj e |>.2 hf, hcells _ ▸ hover⟩
    · have hr : r = selectSprites y es c := by simp only [r, selectSprites, if_neg hcov]
      have hall : all = es.filter fun e => e.covers y := List.filter_cons_of_neg hcov
      rw [hr, hall]
      exact ih hc

theorem spriteCells_le_of_prefix {l m : List Sprite} (h : l <+: m) :
    spriteCells l ≤ spriteCells m := by
  obtain ⟨k, rfl⟩ := h
  rw [spriteCells, spriteCells, List.map_append, List.sum_append]
  exact Nat.le_add_right _ _

/-- Settles O55: the run and the overflow bit from an empty row. -/
theorem spriteSelectionFitsSixteenCells : Obligations.SpriteSelectionFitsSixteenCells := by
  intro y es r all cells
  have hcov (e : Sprite) : e.covers y = decide (e.y ≤ y + 64 ∧ y + 64 < e.y + e.height) :=
    (Bool.decide_and _ _).symm
  have hall : es.filter (fun e => e.covers y) = all := by simp only [hcov, all]
  obtain ⟨hprefix, hfits, hdone, hmore⟩ := selectSprites_spec y es (Nat.zero_le 16)
  rw [hall] at hprefix hdone hmore
  simp only [Nat.zero_add] at hfits hmore
  refine ⟨hprefix, hfits, ⟨fun h => ?_, fun h => ?_⟩, hdone, hmore⟩
  · obtain ⟨e, he, hover⟩ := hmore h
    exact hover.trans_le (spriteCells_le_of_prefix he)
  · by_contra hr
    have hrun : r.1 = all := hdone (Bool.eq_false_of_not_eq_true hr)
    exact absurd (hrun ▸ h) (Nat.not_lt.2 hfits)

end Sys2Proof.Machine
end

section
/-! PROOFS. The pixel formats: map, tiles, sprite entries and patterns (61_video.md R545-R551, R554). -/

namespace Sys2Proof.Machine

/-- One bit of one VRAM word, as the planes of tiles and patterns give it (61_video.md R547, R551). -/
def Vdc.planeBit (p : Params) (v : Vdc) (word bit : Nat) : Nat :=
  (v.vramAt p word).toNat / 2 ^ bit % 2

/-! ### The background -/

theorem Vdc.mapWidth_eq (v : Vdc) :
    v.mapWidth = [32, 64, 128, 128].getD (v.mwr.toNat / 16 % 4) 0 := by
  have hfield : (v.mwr.extractLsb' 4 2).toNat = v.mwr.toNat / 16 % 4 :=
    toNat_extractLsb'_eq_div_mod v.mwr 4 2
  rw [← hfield, Vdc.mapWidth]
  generalize v.mwr.extractLsb' 4 2 = f
  revert f
  decide

theorem Vdc.mapHeight_eq (v : Vdc) :
    v.mapHeight = if v.mwr.toNat / 64 % 2 = 1 then 64 else 32 := by
  rw [Vdc.mapHeight, getLsbD_eq_decide_div_mod]
  exact if_congr decide_eq_true_iff rfl rfl

theorem Vdc.tileColour_eq (p : Params) (v : Vdc) (t r c : Nat) :
    v.tileColour p t r c =
      v.planeBit p (t * 16 + r) (7 - c) + 2 * v.planeBit p (t * 16 + r) (15 - c)
        + 4 * v.planeBit p (t * 16 + r + 8) (7 - c)
        + 8 * v.planeBit p (t * 16 + r + 8) (15 - c) := by
  rw [Vdc.tileColour, Nat.add_right_comm (t * 16) 8 r]
  simp only [planeColour, toNat_getLsbD, Vdc.planeBit]

/-- The background pixel from the colour number of its tile (61_video.md R545, R546, R548). -/
theorem Vdc.bgPixel_eq (p : Params) (v : Vdc) (s : Snapshot) (x : Nat) :
    let px := (s.bxr.toNat + x) % (v.mapWidth * 8)
    let py := s.bgY.toNat % (v.mapHeight * 8)
    let e := (v.vramAt p (py / 8 * v.mapWidth + px / 8)).toNat
    let k := v.tileColour p (e % 4096) (py % 8) (px % 8)
    v.bgPixel p s x = if s.bb = false ∨ k = 0 then none else some (e / 4096 * 16 + k) := by
  intro px py e k
  have hfields (m : Word) : (m.extractLsb' 0 12).toNat = m.toNat % 4096 ∧
      (m.extractLsb' 12 4).toNat = m.toNat / 4096 :=
    ⟨by rw [toNat_extractLsb'_eq_div_mod]; omega, by rw [toNat_extractLsb'_eq_div_mod]; omega⟩
  unfold Vdc.bgPixel
  simp only [(hfields _).1, (hfields _).2]
  cases s.bb with
  | false => rfl
  | true => simp only [if_true, Bool.true_eq_false, false_or]; rfl

/-! ### Sprite entries -/

/-- The height of SAT entry j (61_video.md R549). -/
theorem Vdc.sprite_height_eq (v : Vdc) (j : Nat) :
    (v.sprite j).height =
      [16, 32, 64, 64].getD ((Store.get 0 v.sat (4 * j + 3)).toNat / 4096 % 4) 0 := by
  have hfield (m : Word) : (m.extractLsb' 12 2).toNat = m.toNat / 4096 % 4 :=
    toNat_extractLsb'_eq_div_mod m 12 2
  rw [← hfield]
  unfold Vdc.sprite
  dsimp only
  generalize BitVec.extractLsb' 12 2 _ = f
  revert f
  decide

/-- The fields of SAT entry j as arithmetic on its four words (61_video.md R549). -/
theorem Vdc.sprite_eq (v : Vdc) (j : Nat) :
    let w (i : Nat) : Nat := (Store.get 0 v.sat (4 * j + i)).toNat
    v.sprite j =
      { index := j, y := w 0 % 1024, x := w 1 % 1024, pattern := w 2 / 2 % 1024
        palette := w 3 % 16, front := decide (w 3 / 128 % 2 = 1)
        width := if w 3 / 256 % 2 = 1 then 32 else 16
        height := [16, 32, 64, 64].getD (w 3 / 4096 % 4) 0
        xFlip := decide (w 3 / 2048 % 2 = 1), yFlip := decide (w 3 / 32768 = 1) } := by
  intro w
  have htop (m : Word) : m.toNat / 2 ^ 15 % 2 = m.toNat / 32768 := by omega
  have hheight := v.sprite_height_eq j
  unfold Vdc.sprite at hheight ⊢
  dsimp only at hheight ⊢
  rw [hheight]
  simp only [Sprite.mk.injEq, toNat_extractLsb'_eq_div_mod, getLsbD_eq_decide_div_mod, htop,
    decide_eq_true_iff, pow_zero, Nat.div_one, Nat.add_zero, w]
  exact ⟨trivial, rfl, rfl, rfl, rfl, rfl, rfl, trivial, rfl, trivial⟩

theorem Vdc.sprite_width (v : Vdc) (j : Nat) :
    (v.sprite j).width = 16 ∨ (v.sprite j).width = 32 := by
  rw [Vdc.sprite_eq]
  exact (ite_eq_or_eq _ 32 16).symm

theorem Vdc.sprite_height (v : Vdc) (j : Nat) :
    (v.sprite j).height = 16 ∨ (v.sprite j).height = 32 ∨ (v.sprite j).height = 64 := by
  have hcode : ∀ k < 4, [16, 32, 64, 64].getD k 0 = 16 ∨ [16, 32, 64, 64].getD k 0 = 32 ∨
      [16, 32, 64, 64].getD k 0 = 64 := by decide
  rw [Vdc.sprite_height_eq]
  exact hcode _ (Nat.mod_lt _ (by decide))

theorem Vdc.sprite_pattern_lt (v : Vdc) (j : Nat) : (v.sprite j).pattern < 1024 := by
  rw [Vdc.sprite_eq]
  exact Nat.mod_lt _ (by decide)

/-! ### Sprite patterns -/

/-- Masking low bits of a pattern number leaves the seven bits above bit 2. -/
theorem toNat_and_not_masks (x : BitVec 10) (m k : BitVec 3) :
    (x &&& ~~~(m.zeroExtend 10) &&& ~~~(k.zeroExtend 10)).toNat =
      x.toNat / 8 * 8 + (x.extractLsb' 0 3 &&& ~~~m &&& ~~~k).toNat := by
  generalize hy : x &&& ~~~(m.zeroExtend 10) &&& ~~~(k.zeroExtend 10) = y
  have hhigh : y.extractLsb' 3 7 = x.extractLsb' 3 7 := by
    subst hy
    ext i hi
    simpa using fun _ => by omega
  have hlow : y.extractLsb' 0 3 = x.extractLsb' 0 3 &&& ~~~m &&& ~~~k := by
    subst hy
    ext i hi
    simp [hi, Nat.lt_trans hi]
  have h7 := congrArg BitVec.toNat hhigh
  have h3 := congrArg BitVec.toNat hlow
  rw [toNat_extractLsb'_eq_div_mod] at h3
  rw [toNat_extractLsb'_eq_div_mod, toNat_extractLsb'_eq_div_mod] at h7
  rw [← h3]
  omega

/-- What the width and height masks leave of bits 0 to 2 (61_video.md R550). -/
theorem toNat_maskedLowBits (z : BitVec 3) {w h : Nat} (hw : w = 16 ∨ w = 32)
    (hh : h = 16 ∨ h = 32 ∨ h = 64) :
    (z &&& ~~~(if w = 32 then 1#3 else 0#3) &&&
        ~~~(if h = 16 then 0#3 else if h = 32 then 2#3 else 6#3)).toNat =
      (if h = 64 then 0 else z.toNat / 4 % 2 * 4) + (if h = 16 then z.toNat / 2 % 2 * 2 else 0)
        + (if w = 32 then 0 else z.toNat % 2) := by
  revert z
  obtain rfl | rfl := hw <;> obtain rfl | rfl | rfl := hh <;> decide

/-- The first pattern of a SAT entry: the bits its width and height take are cleared (61_video.md
R550). -/
theorem Vdc.basePattern_sprite (v : Vdc) (j : Nat) :
    let e := v.sprite j
    e.basePattern =
      e.pattern / 8 * 8 + (if e.height = 64 then 0 else e.pattern / 4 % 2 * 4)
        + (if e.height = 16 then e.pattern / 2 % 2 * 2 else 0)
        + (if e.width = 32 then 0 else e.pattern % 2) := by
  intro e
  have hpattern : (BitVec.ofNat 10 e.pattern).toNat = e.pattern :=
    Nat.mod_eq_of_lt (v.sprite_pattern_lt j)
  have hwidth : (if e.width = 32 then 1#10 else 0#10) =
      (if e.width = 32 then 1#3 else 0#3).zeroExtend 10 := by split <;> rfl
  have hheight : (if e.height = 16 then 0#10 else if e.height = 32 then 2#10 else 6#10) =
      (if e.height = 16 then 0#3 else if e.height = 32 then 2#3 else 6#3).zeroExtend 10 := by
    split
    · rfl
    · split <;> rfl
  have hbit (i : Nat) (hi : i < 3) : e.pattern % 8 / 2 ^ i % 2 = e.pattern / 2 ^ i % 2 := by
    interval_cases i <;> omega
  unfold Sprite.basePattern
  rw [hwidth, hheight, toNat_and_not_masks, toNat_maskedLowBits _ (v.sprite_width j)
    (v.sprite_height j), toNat_extractLsb'_eq_div_mod, hpattern, pow_zero, Nat.div_one, ← Nat.add_assoc,
    ← Nat.add_assoc]
  have h4 := hbit 2 (by decide)
  have h2 := hbit 1 (by decide)
  have h1 := hbit 0 (by decide)
  simp only [Nat.reducePow, Nat.div_one] at h4 h2 h1 ⊢
  rw [h4, h2, h1]

theorem Vdc.patternColour_eq (p : Params) (v : Vdc) (n r c : Nat) :
    v.patternColour p n r c =
      v.planeBit p (n * 64 + r) (15 - c) + 2 * v.planeBit p (n * 64 + r + 16) (15 - c)
        + 4 * v.planeBit p (n * 64 + r + 32) (15 - c)
        + 8 * v.planeBit p (n * 64 + r + 48) (15 - c) := by
  rw [Nat.add_right_comm _ r 16, Nat.add_right_comm _ r 32, Nat.add_right_comm _ r 48]
  simp only [Vdc.patternColour, planeColour, toNat_getLsbD, Vdc.planeBit]

/-- The cell and the pixel within it of a position counted from either end (61_video.md R551). -/
theorem flipped_div_mod {size k d : Nat} (flip : Bool) (hsize : size = 16 * k) (hd : d < size) :
    let q := if flip then size - 1 - d else d
    q / 16 = (if flip then size / 16 - 1 - d / 16 else d / 16) ∧
      q % 16 = if flip then 15 - d % 16 else d % 16 := by
  cases flip with
  | false => exact ⟨rfl, rfl⟩
  | true =>
    simp only [if_true]
    omega

/-- The colour of a covering SAT entry at a pixel: outside its width 0, else that of its cell's pattern
(61_video.md R549-R551). -/
theorem Vdc.spriteColour_sprite (p : Params) (v : Vdc) (j y x : Nat) :
    let e := v.sprite j
    e.y ≤ y + 64 → y + 64 < e.y + e.height →
    let dx := x + 32 - e.x
    let dy := y + 64 - e.y
    v.spriteColour p e y x =
      if e.x ≤ x + 32 ∧ x + 32 < e.x + e.width then
        v.patternColour p
          (e.basePattern + (if e.xFlip then e.width / 16 - 1 - dx / 16 else dx / 16)
            + 2 * (if e.yFlip then e.height / 16 - 1 - dy / 16 else dy / 16))
          (if e.yFlip then 15 - dy % 16 else dy % 16) (if e.xFlip then 15 - dx % 16 else dx % 16)
      else 0 := by
  intro e htop hbottom dx dy
  obtain ⟨m, hm⟩ : ∃ m, e.width = 16 * m := by
    obtain h | h : e.width = 16 ∨ e.width = 32 := v.sprite_width j
    exacts [⟨1, h⟩, ⟨2, h⟩]
  obtain ⟨n, hn⟩ : ∃ n, e.height = 16 * n := by
    obtain h | h | h : e.height = 16 ∨ e.height = 32 ∨ e.height = 64 := v.sprite_height j
    exacts [⟨1, h⟩, ⟨2, h⟩, ⟨4, h⟩]
  unfold Vdc.spriteColour
  split
  · next hx =>
    obtain ⟨hcell, hcol⟩ := flipped_div_mod e.xFlip hm (show dx < e.width by omega)
    obtain ⟨hcellRow, hrow⟩ := flipped_div_mod e.yFlip hn (show dy < e.height by omega)
    dsimp only
    rw [hcell, hcol, hcellRow, hrow]
  · rfl

/-- The sprite pixel shown is the first opaque one in the selection (61_video.md R554). -/
theorem Vdc.spritePixel_eq (p : Params) (v : Vdc) (y x : Nat) (sel : List Sprite) :
    v.spritePixel p y x sel =
      (sel.find? fun e => decide (v.spriteColour p e y x ≠ 0)).map fun e =>
        (e.front, 256 + e.palette * 16 + v.spriteColour p e y x) := by
  induction sel with
  | nil => rfl
  | cons e es ih =>
    by_cases hk : v.spriteColour p e y x = 0
    · rw [List.find?_cons_of_neg (by simpa using hk), ← ih, Vdc.spritePixel]
      exact if_pos hk
    · rw [List.find?_cons_of_pos (by simpa using hk), Vdc.spritePixel]
      exact if_neg hk

/-- Settles O56: each format by its own equation, with the plane bits written out. -/
theorem pixelFormats : Obligations.PixelFormats := by
  intro p v plane
  refine ⟨fun s x => ?_, v.sprite_eq, fun j y x => ?_, v.spritePixel_eq p⟩
  · intro mw mh px py e word c k
    have hbg := v.bgPixel_eq p s x
    simp only [v.mapWidth_eq, v.mapHeight_eq, v.tileColour_eq p] at hbg
    exact hbg
  · intro e htop hbottom
    have hcolour := v.spriteColour_sprite p j y x htop hbottom
    simp only [v.basePattern_sprite j, v.patternColour_eq p] at hcolour
    exact hcolour

end Sys2Proof.Machine
end

section
/-! PROOFS. The end of an active line: its record, its row, overflow and collision (61_video.md
R536-R540, R552-R556). -/

namespace Sys2Proof.Machine

variable {p : Params} {v : Vdc} {l : Nat}

/-! ### Geometry (61_video.md R536) -/

theorem Vdc.activeStart_eq (v : Vdc) :
    v.activeStart = v.vpr.toNat % 32 + v.vpr.toNat / 256 + 3 := by
  rw [Vdc.activeStart, toNat_extractLsb'_eq_div_mod, toNat_extractLsb'_eq_div_mod]
  omega

theorem Vdc.activeEnd_eq (p : Params) (v : Vdc) :
    v.activeEnd p =
      min (v.vpr.toNat % 32 + v.vpr.toNat / 256 + 3 + v.vdw.toNat % 512 + 1) p.linesPerFrame := by
  rw [Vdc.activeEnd, Vdc.activeStart_eq, toNat_extractLsb'_eq_div_mod, pow_zero, Nat.div_one]
  rfl

theorem Vdc.isActive_iff : v.isActive p l = true ↔ v.activeStart ≤ l ∧ l < v.activeEnd p := by
  rw [Vdc.isActive, Bool.and_eq_true, decide_eq_true_iff, decide_eq_true_iff]

theorem Vdc.width_eq (v : Vdc) : v.width = (v.hdr.toNat % 128 + 1) * 8 := by
  rw [Vdc.width, toNat_extractLsb'_eq_div_mod, pow_zero, Nat.div_one]
  rfl

/-! ### The events of a line -/

/-- A conditional event sets its status bit and requests IRQ1 exactly if its condition and its enable
hold. -/
theorem Vdc.raiseIf_eq (v : Vdc) (b : Bool) (e : VdcEvent) :
    v.raiseIf b e =
      ({ v with st := v.st ||| if b && v.enabled e then BitVec.ofNat 6 (2 ^ e.bit) else 0 },
        b && v.enabled e) := by
  rw [Vdc.raiseIf, Vdc.raise_eq]
  cases b <;> cases v.enabled e <;> simp

/-- The sprites selected on active row y with SB on or off, and whether the row overflows (61_video.md
R552). -/
def Vdc.selection (v : Vdc) (on : Bool) (y : Nat) : List Sprite × Bool :=
  if on then selectSprites y ((List.range 64).map v.sprite) 0 else ([], false)

/-- Rendering a line is its two events and its row (61_video.md R552-R556). -/
theorem Vdc.renderLine_eq (p : Params) (pal : Store (BitVec 9)) (l : Nat) (v : Vdc) :
    let s := Store.get default v.snap l
    let y := l - v.activeStart
    let sel := v.selection s.sb y
    let overflow := sel.2 && v.cr.getLsbD 1
    let collision := v.collides p y sel.1 && v.cr.getLsbD 0
    v.renderLine p pal l =
      ({ v with
          st := v.st ||| (if overflow then 2 else 0) ||| (if collision then 1 else 0)
          frame := Store.set [] v.frame y (v.renderRow p pal s y sel.1) },
        overflow || collision) := by
  intro s y sel overflow collision
  let r := vdcThen (v.raiseIf sel.2 .overflow) fun w =>
    w.raiseIf (v.collides p y sel.1) .collision
  have hr : r =
      ({ v with st := v.st ||| (if overflow then 2 else 0) ||| (if collision then 1 else 0) },
        overflow || collision) := by
    simp only [r, vdcThen, Vdc.raiseIf_eq]
    rfl
  change ({ r.1 with frame := Store.set [] r.1.frame y (v.renderRow p pal s y sel.1) }, r.2) = _
  rw [hr]

/-! ### What the pixels of a line depend on -/

theorem Vdc.vramAt_congr {v w : Vdc} (hvram : w.vram = v.vram) : w.vramAt p = v.vramAt p := by
  unfold Vdc.vramAt
  rw [hvram]

theorem Vdc.spriteColour_congr {v w : Vdc} (hvram : w.vram = v.vram) :
    w.spriteColour p = v.spriteColour p := by
  unfold Vdc.spriteColour Vdc.patternColour
  rw [Vdc.vramAt_congr hvram]

theorem Vdc.bgPixel_congr {v w : Vdc} (hvram : w.vram = v.vram) (hmwr : w.mwr = v.mwr) :
    w.bgPixel p = v.bgPixel p := by
  unfold Vdc.bgPixel Vdc.tileColour Vdc.mapWidth Vdc.mapHeight
  rw [Vdc.vramAt_congr hvram, hmwr]

theorem Vdc.spritePixel_congr {v w : Vdc} (hvram : w.vram = v.vram) :
    w.spritePixel p = v.spritePixel p := by
  funext y x sel
  rw [Vdc.spritePixel_eq, Vdc.spritePixel_eq, Vdc.spriteColour_congr hvram]

theorem Vdc.renderRow_congr {v w : Vdc} (hvram : w.vram = v.vram) (hmwr : w.mwr = v.mwr)
    (hhdr : w.hdr = v.hdr) (pal : Store (BitVec 9)) : w.renderRow p pal = v.renderRow p pal := by
  unfold Vdc.renderRow Vdc.width
  rw [Vdc.spritePixel_congr hvram, Vdc.bgPixel_congr hvram hmwr, hhdr]

theorem Vdc.collides_congr {v w : Vdc} (hvram : w.vram = v.vram) (hhdr : w.hdr = v.hdr) :
    w.collides p = v.collides p := by
  unfold Vdc.collides Vdc.width
  rw [Vdc.spriteColour_congr hvram, hhdr]

theorem Vdc.collides_iff {y : Nat} {sel : List Sprite} :
    v.collides p y sel = true ↔
      ∃ x < v.width, ∃ e ∈ sel, ∃ f ∈ sel, e.index = 0 ∧ f.index ≠ 0 ∧
        v.spriteColour p e y x ≠ 0 ∧ v.spriteColour p f y x ≠ 0 := by
  simp only [Vdc.collides, List.any_eq_true, List.mem_range, Bool.and_eq_true, decide_eq_true_iff]
  constructor
  · rintro ⟨x, hx, ⟨e, he, hindex, hopaque⟩, f, hf, hother, hopaque'⟩
    exact ⟨x, hx, e, he, f, hf, hindex, hother, hopaque, hopaque'⟩
  · rintro ⟨x, hx, e, he, f, hf, hindex, hother, hopaque, hopaque'⟩
    exact ⟨x, hx, ⟨e, he, hindex, hopaque⟩, f, hf, hother, hopaque'⟩

/-! ### The end of a line -/

theorem Vdc.endOfLine_of_inactive (h : v.isActive p l = false) (pal : Store (BitVec 9)) :
    v.endOfLine p pal l = (v, false) := by
  rw [Vdc.endOfLine, h]
  rfl

/-- The end of an active line takes its record and renders it with that record (61_video.md R539,
R540). -/
theorem Vdc.endOfLine_of_active (h : v.isActive p l = true)
    (hsnap : Store.wf default v.snap = true) (pal : Store (BitVec 9)) :
    let y := l - v.activeStart
    let sel := v.selection (v.cr.getLsbD 6) y
    let overflow := sel.2 && v.cr.getLsbD 1
    let collision := v.collides p y sel.1 && v.cr.getLsbD 0
    v.endOfLine p pal l =
      ({ v with
          st := v.st ||| (if overflow then 2 else 0) ||| (if collision then 1 else 0)
          snap := Store.set default v.snap l v.record
          frame := Store.set [] v.frame y (v.renderRow p pal v.record y sel.1) },
        overflow || collision) := by
  intro y sel overflow collision
  let w : Vdc := { v with snap := Store.set default v.snap l v.record }
  have hrecord : Store.get default w.snap l = v.record := Store.get_set_same _ _ hsnap
  have hrow : w.renderRow p pal = v.renderRow p pal :=
    Vdc.renderRow_congr (v := v) (w := w) rfl rfl rfl pal
  have hcollides : w.collides p = v.collides p := Vdc.collides_congr rfl rfl
  have hline := w.renderLine_eq p pal l
  rw [hrecord, hrow, hcollides] at hline
  rw [Vdc.endOfLine, if_pos h]
  exact hline

/-- The end of a line changes the status, the records and the frame alone. -/
theorem Vdc.endOfLine_only (p : Params) (pal : Store (BitVec 9)) (l : Nat) (v : Vdc) :
    (v.endOfLine p pal l).1 =
      { v with
        st := (v.endOfLine p pal l).1.st, snap := (v.endOfLine p pal l).1.snap
        frame := (v.endOfLine p pal l).1.frame } := by
  unfold Vdc.endOfLine
  split
  · rw [Vdc.renderLine_eq]
  · rfl

/-! ### The row -/

/-- The palette index of a column, the sprite in front of the background or behind it (61_video.md
R555). -/
theorem Vdc.getElem?_renderRow (pal : Store (BitVec 9)) (s : Snapshot) (y : Nat) (sel : List Sprite)
    {x : Nat} (hx : x < v.width) :
    (v.renderRow p pal s y sel)[x]? =
      some (Store.get 0 pal (composeIndex (v.spritePixel p y x sel) (v.bgPixel p s x))) := by
  rw [Vdc.renderRow, List.getElem?_map, List.getElem?_range hx]
  rfl

/-- With neither sprites nor background every colour is entry 0 (61_video.md R548, R555). -/
theorem Vdc.renderRow_blank (pal : Store (BitVec 9)) {s : Snapshot} (hbb : s.bb = false) (y : Nat) :
    v.renderRow p pal s y [] = List.replicate v.width (Store.get 0 pal 0) := by
  have hbg (x : Nat) : v.bgPixel p s x = none := by
    rw [Vdc.bgPixel_eq, if_pos (.inl hbb)]
  have hlength : (v.renderRow p pal s y []).length = v.width := by
    rw [Vdc.renderRow, List.length_map, List.length_range]
  refine List.eq_replicate_iff.2 ⟨hlength, fun c hc => ?_⟩
  obtain ⟨x, -, rfl⟩ := List.mem_map.1 hc
  rw [hbg]
  rfl

/-- The status bits after a line's two events. -/
theorem getLsbD_lineEvents (st : BitVec 6) (overflow collision : Bool) {k : Nat} (hk : k < 6) :
    (st ||| (if overflow then 2 else 0) ||| (if collision then 1 else 0)).getLsbD k = true ↔
      st.getLsbD k = true ∨ (k = 1 ∧ overflow = true) ∨ (k = 0 ∧ collision = true) := by
  rw [BitVec.getLsbD_or, BitVec.getLsbD_or, Bool.or_eq_true, Bool.or_eq_true, or_assoc]
  refine or_congr Iff.rfl (or_congr ?_ ?_) <;> revert k
  · cases overflow <;> decide
  · cases collision <;> decide

/-- Settles O57: an active line's end as one equation, its row column by column and its events bit by
bit. -/
theorem activeLineRenders : Obligations.ActiveLineRenders := by
  intro p pal v l start hstart hstop hsnap hframe snap t w y row picked sel overflow collision
  have hactive : v.isActive p l = true := by
    rw [Vdc.isActive_iff, Vdc.activeStart_eq, Vdc.activeEnd_eq]
    exact ⟨hstart, hstop⟩
  have hy : l - v.activeStart = y := by rw [Vdc.activeStart_eq]
  have hsel : (v.selection snap.sb y).1 = sel := apply_ite Prod.fst _ _ _
  have hover : ((v.selection snap.sb y).2 && v.cr.getLsbD 1) = true ↔ overflow := by
    have hsecond : (v.selection snap.sb y).2 = (snap.sb && picked.2) := by
      unfold Vdc.selection
      cases snap.sb <;> rfl
    rw [hsecond, Bool.and_eq_true, Bool.and_eq_true, and_assoc]
  have hcoll : (v.collides p y (v.selection snap.sb y).1 && v.cr.getLsbD 0) = true ↔ collision := by
    rw [hsel, Bool.and_eq_true, Vdc.collides_iff, Vdc.width_eq, and_comm]
  have ht : t = _ := Vdc.endOfLine_of_active hactive hsnap pal
  rw [hy] at ht
  have hst : t.1.st = v.st ||| (if (v.selection snap.sb y).2 && v.cr.getLsbD 1 then 2 else 0) |||
      (if v.collides p y (v.selection snap.sb y).1 && v.cr.getLsbD 0 then 1 else 0) := by rw [ht]
  have hrow : row = v.renderRow p pal snap y sel := by
    rw [← hsel]
    simp only [row, ht]
    exact Store.get_set_same _ _ hframe
  refine ⟨Vdc.endOfLine_only p pal l v, fun n => ?_, fun n hn => ?_, ?_, fun x hx => ?_,
    fun hsb hbb => ?_, ?_, fun k hk => ?_⟩
  · rw [ht]
    exact Store.get_set hsnap l _ n
  · rw [ht]
    exact Store.get_set_other [] _ hn _
  · rw [hrow, Vdc.renderRow, List.length_map, List.length_range, Vdc.width_eq]
  · rw [hrow, Vdc.getElem?_renderRow pal snap y sel (hx.trans_eq v.width_eq.symm)]
    congr 2
    generalize v.spritePixel p y x sel = a, v.bgPixel p snap x = b
    obtain _ | ⟨front, i⟩ := a <;> obtain _ | j := b
    · rfl
    · rfl
    · cases front <;> rfl
    · cases front <;> rfl
  · have hnone : sel = [] := if_neg (by rw [hsb]; decide)
    rw [hrow, hnone, Vdc.renderRow_blank pal hbb, Vdc.width_eq]
  · rw [← hover, ← hcoll, ht]
    exact Bool.or_eq_true_iff
  · rw [hst, getLsbD_lineEvents _ _ _ hk, hover, hcoll]

end Sys2Proof.Machine
end

section
/-! PROOFS. The VDC's advance, line by line (61_video.md R535-R541). -/

namespace Sys2Proof.Machine

variable {p : Params} {v : Vdc} {f g : Vdc → Vdc × Bool}

/-! ### The clock plays no part in a line's events -/

/-- The VDC with VdcClock at c. -/
def Vdc.atClock (c : Nat) (v : Vdc) : Vdc := { v with clock := c }

/-- An action that neither looks at VdcClock nor changes it. -/
def Vdc.ClockFree (f : Vdc → Vdc × Bool) : Prop :=
  ∀ (v : Vdc) (c : Nat), f (v.atClock c) = ((f v).1.atClock c, (f v).2)

theorem Vdc.ClockFree.idle : Vdc.ClockFree fun v => (v, false) := fun _ _ => rfl

theorem Vdc.ClockFree.andThen (hf : Vdc.ClockFree f) (hg : Vdc.ClockFree g) :
    Vdc.ClockFree fun v => vdcThen (f v) g := by
  intro v c
  simp only [vdcThen, hf v c, hg (f v).1 c]

theorem Vdc.ClockFree.ite {b : Vdc → Prop} [DecidablePred b]
    (hb : ∀ (v : Vdc) (c : Nat), b (v.atClock c) ↔ b v) (hf : Vdc.ClockFree f)
    (hg : Vdc.ClockFree g) : Vdc.ClockFree fun v => if b v then f v else g v := by
  intro v c
  by_cases h : b v
  · simp only [if_pos h, if_pos ((hb v c).2 h), hf v c]
  · simp only [if_neg h, if_neg (mt (hb v c).1 h), hg v c]

theorem Vdc.clockFree_raise (e : VdcEvent) : Vdc.ClockFree (·.raise e) := by
  intro v c
  simp only [Vdc.raise_eq]
  rfl

theorem Vdc.satCopy_atClock (p : Params) (v : Vdc) (c : Nat) :
    (v.atClock c).satCopy p = v.satCopy p := by
  unfold Vdc.satCopy Vdc.vramRead Vdc.vramAt
  rfl

theorem Vdc.clockFree_satDma (p : Params) : Vdc.ClockFree (·.satDma p) := by
  intro v c
  dsimp only
  by_cases harmed : v.satPending = true ∨ v.dcr.getLsbD 4 = true
  · rw [Vdc.satDma_of_armed harmed, Vdc.satDma_of_armed (v := v.atClock c) harmed,
      Vdc.satCopy_atClock]
    generalize v.satCopy p = m
    rfl
  · obtain ⟨hpending, hrepeat⟩ := not_or.1 harmed
    rw [Bool.not_eq_true] at hpending hrepeat
    rw [Vdc.satDma_of_idle hpending hrepeat, Vdc.satDma_of_idle (v := v.atClock c) hpending hrepeat]

theorem Vdc.clockFree_renderLine (p : Params) (pal : Store (BitVec 9)) (l : Nat) :
    Vdc.ClockFree (·.renderLine p pal l) := by
  intro v c
  have hrow : (v.atClock c).renderRow p pal = v.renderRow p pal :=
    Vdc.renderRow_congr (v := v) (w := v.atClock c) rfl rfl rfl pal
  have hcollides : (v.atClock c).collides p = v.collides p :=
    Vdc.collides_congr (v := v) (w := v.atClock c) rfl rfl
  dsimp only
  rw [Vdc.renderLine_eq, Vdc.renderLine_eq, hrow, hcollides]
  rfl

theorem Vdc.clockFree_endOfLine (p : Params) (pal : Store (BitVec 9)) (l : Nat) :
    Vdc.ClockFree (·.endOfLine p pal l) :=
  Vdc.ClockFree.ite (fun _ _ => Iff.rfl)
    (fun v => Vdc.clockFree_renderLine p pal l
      { v with snap := Store.set default v.snap l v.record })
    .idle

theorem Vdc.clockFree_rasterCompare (p : Params) (l : Nat) : Vdc.ClockFree (·.rasterCompare p l) := by
  intro v c
  simp only [Vdc.rasterCompare, Vdc.raiseIf_eq]
  rfl

theorem Vdc.clockFree_verticalBlank (p : Params) (l : Nat) : Vdc.ClockFree (·.verticalBlank p l) :=
  Vdc.ClockFree.ite (fun _ _ => Iff.rfl)
    ((Vdc.clockFree_raise .vblank).andThen (Vdc.clockFree_satDma p)) .idle

/-! ### What the end of a line leaves -/

@[simp] theorem Vdc.endOfLine_rcr (p : Params) (pal : Store (BitVec 9)) (l : Nat) (v : Vdc) :
    (v.endOfLine p pal l).1.rcr = v.rcr := by rw [Vdc.endOfLine_only]

@[simp] theorem Vdc.endOfLine_byr (p : Params) (pal : Store (BitVec 9)) (l : Nat) (v : Vdc) :
    (v.endOfLine p pal l).1.byr = v.byr := by rw [Vdc.endOfLine_only]

@[simp] theorem Vdc.endOfLine_vpr (p : Params) (pal : Store (BitVec 9)) (l : Nat) (v : Vdc) :
    (v.endOfLine p pal l).1.vpr = v.vpr := by rw [Vdc.endOfLine_only]

@[simp] theorem Vdc.endOfLine_vdw (p : Params) (pal : Store (BitVec 9)) (l : Nat) (v : Vdc) :
    (v.endOfLine p pal l).1.vdw = v.vdw := by rw [Vdc.endOfLine_only]

@[simp] theorem Vdc.endOfLine_line (p : Params) (pal : Store (BitVec 9)) (l : Nat) (v : Vdc) :
    (v.endOfLine p pal l).1.line = v.line := by rw [Vdc.endOfLine_only]

@[simp] theorem Vdc.endOfLine_bgY (p : Params) (pal : Store (BitVec 9)) (l : Nat) (v : Vdc) :
    (v.endOfLine p pal l).1.bgY = v.bgY := by rw [Vdc.endOfLine_only]

@[simp] theorem Vdc.endOfLine_lastFrame (p : Params) (pal : Store (BitVec 9)) (l : Nat) (v : Vdc) :
    (v.endOfLine p pal l).1.lastFrame = v.lastFrame := by rw [Vdc.endOfLine_only]

/-! ### The start of a line -/

/-- What the start of line l makes of the last frame and of BgY (61_video.md R539, R541). -/
def Vdc.atLineStart (p : Params) (l : Nat) (v : Vdc) : Vdc :=
  { v with
    lastFrame := if l = 0 then v.frame else v.lastFrame
    bgY :=
      if l = v.activeStart then v.byr.extractLsb' 0 9
      else if v.isActive p l then v.bgY + 1
      else v.bgY }

theorem Vdc.atLineStart_eq {v : Vdc} {start stop : Nat} {last : Store Row} {bgY : BitVec 9}
    {byr : Word} (hstart : v.activeStart = start) (hstop : v.activeEnd p = stop)
    (hlast : v.lastFrame = last) (hbgY : v.bgY = bgY) (hbyr : v.byr = byr) (l : Nat) :
    v.atLineStart p l =
      { v with
        lastFrame := if l = 0 then v.frame else last
        bgY :=
          if l = start then BitVec.ofNat 9 byr.toNat
          else if start ≤ l ∧ l < stop then bgY + 1
          else bgY } := by
  subst hstart hstop hlast hbgY hbyr
  unfold Vdc.atLineStart
  simp only [Vdc.isActive_iff]
  rfl

/-- The start of a line is that, then raster compare, then vertical blank (61_video.md R539). -/
theorem Vdc.startOfLine_eq (p : Params) (l : Nat) (v : Vdc) :
    v.startOfLine p l =
      vdcThen ((v.atLineStart p l).rasterCompare p l) (·.verticalBlank p l) := by
  have hfirst : (if l = 0 then { v with lastFrame := v.frame } else v) =
      { v with lastFrame := if l = 0 then v.frame else v.lastFrame } := by split <;> rfl
  have hbgY (w : Vdc) : w.stepBgY p l =
      { w with
        bgY :=
          if l = w.activeStart then w.byr.extractLsb' 0 9
          else if w.isActive p l then w.bgY + 1
          else w.bgY } := by
    unfold Vdc.stepBgY
    split_ifs <;> rfl
  rw [Vdc.startOfLine, hfirst, hbgY]
  rfl

theorem Vdc.clockFree_startOfLine (p : Params) (l : Nat) : Vdc.ClockFree (·.startOfLine p l) := by
  intro v c
  simp only [Vdc.startOfLine_eq]
  exact (Vdc.clockFree_rasterCompare p l).andThen (Vdc.clockFree_verticalBlank p l)
    (v.atLineStart p l) c

theorem Vdc.rasterCompare_eq (p : Params) (l : Nat) (v : Vdc) :
    v.rasterCompare p l =
      if v.rasterCount p l = v.rcr.toNat % 1024 then v.raise .raster else (v, false) := by
  rw [Vdc.rasterCompare, Vdc.raiseIf, toNat_extractLsb'_eq_div_mod, pow_zero, Nat.div_one]
  exact if_congr decide_eq_true_iff rfl rfl

theorem Vdc.verticalBlank_eq (p : Params) (l : Nat) (v : Vdc) :
    let blank := if l = v.vbLine p then v.raise .vblank else (v, false)
    let copied := if l = v.vbLine p then blank.1.satDma p else (blank.1, false)
    v.verticalBlank p l = (copied.1, blank.2 || copied.2) := by
  unfold Vdc.verticalBlank
  split <;> rfl

theorem Vdc.vbLine_raise (p : Params) (v : Vdc) (e : VdcEvent) :
    (v.raise e).1.vbLine p = v.vbLine p := by
  rw [Vdc.raise_eq]
  rfl

/-- The events of a line's start, one after another (61_video.md R537-R539). -/
theorem Vdc.lineStart_events {w : Vdc} {l count line : Nat} {raster blank copied : Vdc × Bool}
    (hcount : w.rasterCount p l = count) (hline : w.vbLine p = line)
    (hraster : raster = if count = w.rcr.toNat % 1024 then w.raise .raster else (w, false))
    (hblank : blank = if l = line then raster.1.raise .vblank else (raster.1, false))
    (hcopied : copied = if l = line then blank.1.satDma p else (blank.1, false)) :
    vdcThen (w.rasterCompare p l) (·.verticalBlank p l) =
      (copied.1, raster.2 || blank.2 || copied.2) := by
  subst hcount hline
  have hcompared : w.rasterCompare p l = raster := (w.rasterCompare_eq p l).trans hraster.symm
  have hkept : raster.1.vbLine p = w.vbLine p := by
    rw [hraster]
    split
    · exact w.vbLine_raise p .raster
    · rfl
  have hblanked : raster.1.verticalBlank p l = (copied.1, blank.2 || copied.2) := by
    rw [Vdc.verticalBlank_eq, hkept, ← hblank, ← hcopied]
  rw [hcompared, vdcThen, hblanked, Bool.or_assoc]

/-! ### The passes of the loop -/

/-- One pass after its end of line: the next line, started. -/
theorem Vdc.clockFree_toNextLine (p : Params) :
    Vdc.ClockFree fun w =>
      Vdc.startOfLine p ((w.line + 1) % p.linesPerFrame)
        { w with line := (w.line + 1) % p.linesPerFrame } := by
  intro v c
  exact Vdc.clockFree_startOfLine p _ { v with line := (v.line + 1) % p.linesPerFrame } c

theorem Vdc.clockFree_nextLine (p : Params) (pal : Store (BitVec 9)) :
    Vdc.ClockFree (·.nextLine p pal) := by
  have hend : Vdc.ClockFree fun v => v.endOfLine p pal v.line := fun v =>
    Vdc.clockFree_endOfLine p pal v.line v
  unfold Vdc.nextLine
  exact hend.andThen (Vdc.clockFree_toNextLine p)

/-- Inside the line the clock moves alone. -/
theorem Vdc.advance_of_lt {m : Nat} (h : v.clock + m < 1365) (pal : Store (BitVec 9)) :
    v.advance p pal m = ({ v with clock := v.clock + m }, false) := by
  rw [Vdc.advance, Nat.div_eq_of_lt h, Nat.mod_eq_of_lt h]
  rfl

/-- Past the line's end one pass is made, and the advance goes on with what is left of the clocks
(61_video.md R535). -/
theorem Vdc.advance_of_le {m : Nat} (h : 1365 ≤ v.clock + m) (pal : Store (BitVec 9)) :
    v.advance p pal m =
      vdcThen (Vdc.nextLine p pal { v with clock := v.clock + m - 1365 })
        (fun w => w.advance p pal 0) := by
  have hdiv : (v.clock + m) / 1365 = (v.clock + m - 1365) / 1365 + 1 := by omega
  have hmod : (v.clock + m) % 1365 = (v.clock + m - 1365) % 1365 := by omega
  generalize v.clock + m - 1365 = k at hdiv hmod
  have hclock : (Vdc.nextLine p pal (v.atClock k)).1.clock = k := Vdc.nextLine_clock pal _
  have hpass : Vdc.nextLine p pal (v.atClock (k % 1365)) = _ :=
    Vdc.clockFree_nextLine p pal (v.atClock k) (k % 1365)
  calc v.advance p pal m
      = Vdc.nextLines p pal (k / 1365 + 1) (v.atClock (k % 1365)) := by
        rw [Vdc.advance, hdiv, hmod]
        rfl
    _ = vdcThen (Vdc.nextLine p pal (v.atClock k)) (fun w => w.advance p pal 0) := by
        simp only [Vdc.nextLines, hpass, vdcThen, Vdc.advance, hclock, Nat.add_zero]
        rfl

/-- Settles O53: an advance within the line, and one pass of the loop with the start of its line event
by event. -/
theorem vdcAdvanceByLines : Obligations.VdcAdvanceByLines := by
  intro p pal m v
  constructor
  · exact fun h => Vdc.advance_of_lt h pal
  intro h v0 start stop ended l w count raster blank copied rest
  have hstart (x : Vdc) (hvpr : x.vpr = v.vpr) : x.activeStart = start := by
    rw [Vdc.activeStart_eq, hvpr]
  have hstop (x : Vdc) (hvpr : x.vpr = v.vpr) (hvdw : x.vdw = v.vdw) : x.activeEnd p = stop := by
    rw [Vdc.activeEnd_eq, hvpr, hvdw]
  have hvpr : ended.1.vpr = v.vpr := v0.endOfLine_vpr p pal v.line
  have hvdw : ended.1.vdw = v.vdw := v0.endOfLine_vdw p pal v.line
  have hline : ended.1.line = v.line := v0.endOfLine_line p pal v.line
  constructor
  · intro hoff
    have hinactive : ¬ v0.isActive p v.line = true := by
      rwa [Vdc.isActive_iff, hstart v0 rfl, hstop v0 rfl rfl]
    exact Vdc.endOfLine_of_inactive (Bool.eq_false_of_not_eq_true hinactive) pal
  · have hbegun : Vdc.atLineStart p l { ended.1 with line := l } = w :=
      Vdc.atLineStart_eq (v := { ended.1 with line := l }) (hstart _ hvpr) (hstop _ hvpr hvdw)
        (v0.endOfLine_lastFrame p pal v.line) (v0.endOfLine_bgY p pal v.line)
        (v0.endOfLine_byr p pal v.line) l
    have hevents : vdcThen (w.rasterCompare p l) (·.verticalBlank p l) =
        (copied.1, raster.2 || blank.2 || copied.2) := by
      have hcount : w.rasterCount p l = count := by rw [Vdc.rasterCount, hstart w hvpr]
      have hvbLine : w.vbLine p = min stop (p.linesPerFrame - 1) := by
        rw [Vdc.vbLine, hstop w hvpr hvdw]
      have hrcr : w.rcr = v.rcr := v0.endOfLine_rcr p pal v.line
      exact Vdc.lineStart_events hcount hvbLine (by rw [hrcr]) rfl rfl
    have hpass : v0.nextLine p pal = (copied.1, ended.2 || (raster.2 || blank.2 || copied.2)) := by
      change vdcThen ended (fun x => Vdc.startOfLine p ((x.line + 1) % p.linesPerFrame)
        { x with line := (x.line + 1) % p.linesPerFrame }) = _
      rw [vdcThen, hline, Vdc.startOfLine_eq, hbegun, hevents]
    rw [Vdc.advance_of_le h, hpass, vdcThen]
    simp only [Bool.or_assoc]
    rfl

end Sys2Proof.Machine
end

section
/-! PROOFS. The host's reset from any state: the vector, the primed stack, and what the sequence leaves
(70_reset_and_hazards.md R600-R607). -/

namespace Sys2Proof.Machine

variable {p : Params} {s : State} {u : Nat → Word}

/-! ### Priming a stack in RAM -/

/-- A page of RAM: cartridge RAM's, or one of WRAM_PAGES with no fixed target (20_memory.md R82, R83). -/
def RamPage (p : Params) (page : Byte) : Prop :=
  page = 0xF7 ∨ page ∈ p.wramPages ∧ 0x80 ≤ page.toNat ∧ page ≠ 0xFF

theorem State.place_stackAddr_of_ramPage (h : RamPage s.params s.mpr[1]) (sp : Byte) :
    ∃ k, s.place (stackAddr sp) = .wram k ∨ s.place (stackAddr sp) = .cart k := by
  simp only [State.place, placeOf, s.translate_stackAddr_page]
  obtain hcart | ⟨hram, hrom, hhw⟩ := h
  · rw [hcart]
    exact ⟨_, .inr rfl⟩
  · rw [if_neg (Nat.not_lt.2 hrom), if_neg hhw, if_pos hram]
    split
    · exact ⟨_, .inr rfl⟩
    · exact ⟨_, .inl rfl⟩

theorem memWrite_stackAddr_only (h : RamPage s.params s.mpr[1]) (sp b : Byte) :
    ∃ w c, memWrite (stackAddr sp) b s = { s with wram := w, cartRam := c } := by
  have hwrite : memWrite (stackAddr sp) b s = s.writePlace (s.place (stackAddr sp)) b := rfl
  obtain ⟨k, hk | hk⟩ := State.place_stackAddr_of_ramPage h sp
  · exact ⟨_, _, hwrite.trans (by rw [hk]; rfl)⟩
  · exact ⟨_, _, hwrite.trans (by rw [hk]; rfl)⟩

theorem primeStack_only (h : RamPage s.params s.mpr[1]) (bs : List Byte) (sp : Byte) :
    ∃ w c, primeStack bs sp s = { s with wram := w, cartRam := c } := by
  induction bs generalizing s sp with
  | nil => exact ⟨_, _, rfl⟩
  | cons b bs ih =>
    obtain ⟨w, c, hfirst⟩ := memWrite_stackAddr_only h sp b
    obtain ⟨w', c', hrest⟩ := ih (s := { s with wram := w, cartRam := c }) h (sp + 1)
    exact ⟨w', c', by rw [primeStack, hfirst, hrest]⟩

/-- The places of n stack bytes from S = sp up (70_reset_and_hazards.md R607). -/
def State.stackPlaces (s : State) (sp : Byte) (n : Nat) : List Place :=
  (List.range n).map fun j => s.place (stackAddr (sp + BitVec.ofNat 8 j))

theorem add_one_add_ofNat (sp : Byte) (j : Nat) :
    sp + 1 + BitVec.ofNat 8 j = sp + BitVec.ofNat 8 (j + 1) := by
  rw [BitVec.add_assoc, Nat.add_comm j 1, BitVec.ofNat_add]
  rfl

theorem State.stackPlaces_succ (s : State) (sp : Byte) (n : Nat) :
    s.stackPlaces sp (n + 1) = s.place (stackAddr sp) :: s.stackPlaces (sp + 1) n := by
  simp only [State.stackPlaces, List.range_succ_eq_map, List.map_cons, List.map_map, Function.comp_def,
    Nat.succ_eq_add_one, add_one_add_ofNat, BitVec.add_zero]

/-- A byte primed moves no place, so the rest is primed where it would have been. -/
theorem memWrite_stackAddr_place (h : RamPage s.params s.mpr[1]) (sp b : Byte) (a : Word) :
    (memWrite (stackAddr sp) b s).place a = s.place a := by
  obtain ⟨w, c, hwrite⟩ := memWrite_stackAddr_only h sp b
  rw [hwrite]
  rfl

theorem memWrite_stackAddr_ramPage (h : RamPage s.params s.mpr[1]) (sp b : Byte) :
    RamPage (memWrite (stackAddr sp) b s).params (memWrite (stackAddr sp) b s).mpr[1] := by
  obtain ⟨w, c, hwrite⟩ := memWrite_stackAddr_only h sp b
  rw [hwrite]
  exact h

theorem primeStack_memoryKeptBut (h : RamPage s.params s.mpr[1]) (bs : List Byte) (sp : Byte) :
    MemoryKeptBut (s.stackPlaces sp bs.length) s (primeStack bs sp s) := by
  induction bs generalizing s sp with
  | nil => exact fun _ _ => rfl
  | cons b bs ih =>
    intro pl hpl
    rw [List.length_cons, State.stackPlaces_succ, List.mem_cons, not_or] at hpl
    obtain ⟨hfirst, hrest⟩ := hpl
    have hkept := ih (memWrite_stackAddr_ramPage h sp b) (sp + 1) pl
    simp only [State.stackPlaces, memWrite_stackAddr_place h] at hkept hrest
    rw [primeStack, hkept hrest, byteAt_memWrite_other s (Ne.symm hfirst)]

/-- A primed byte stands where no later one was written over it. -/
theorem primeStack_byteAt (h : RamPage s.params s.mpr[1]) (hm : s.memOk = true) (bs : List Byte)
    (sp : Byte) (j : Nat) (hj : j < bs.length)
    (hlast : ∀ j', j < j' → j' < bs.length → s.place (stackAddr (sp + BitVec.ofNat 8 j')) ≠
      s.place (stackAddr (sp + BitVec.ofNat 8 j))) :
    (primeStack bs sp s).byteAt (s.place (stackAddr (sp + BitVec.ofNat 8 j))) = bs[j] := by
  induction bs generalizing s sp j with
  | nil => exact absurd hj (Nat.not_lt_zero j)
  | cons b bs ih =>
    have hram := memWrite_stackAddr_ramPage h sp b
    cases j with
    | zero =>
      have hsp : sp + BitVec.ofNat 8 0 = sp := by simp
      rw [hsp] at hlast ⊢
      have hkept := primeStack_memoryKeptBut hram bs (sp + 1) (s.place (stackAddr sp))
      simp only [State.stackPlaces, memWrite_stackAddr_place h, add_one_add_ofNat, List.mem_map,
        List.mem_range, not_exists, not_and] at hkept
      have hwritten : (memWrite (stackAddr sp) b s).byteAt (s.place (stackAddr sp)) = b := by
        obtain ⟨k, hk⟩ := State.place_stackAddr_of_ramPage h sp
        exact byteAt_memWrite_same s (hk.imp_right .inl) hm b
      rw [primeStack, hkept fun j' hj' => hlast (j' + 1) (Nat.succ_pos j') (Nat.succ_lt_succ hj'),
        hwritten]
      rfl
    | succ j =>
      have hrest := ih hram (memOk_memWrite hm _ b) (sp + 1) j (Nat.lt_of_succ_lt_succ hj)
      simp only [memWrite_stackAddr_place h, add_one_add_ofNat] at hrest
      exact hrest fun j' hlt hj' => hlast (j' + 1) (Nat.succ_lt_succ hlt) (Nat.succ_lt_succ hj')

/-! ### The sequence before it primes the stack and reads the vector -/

/-- The state the reset sequence leaves before BOOT_STACK_PRIME and the vector
(70_reset_and_hazards.md R600, R601, R605). -/
def resetRegisters (u : Nat → Word) (s : State) : State :=
  { s with
    cpu := resetCpu u
    mpr := #v[resetMpr s.params u 0, resetMpr s.params u 1, resetMpr s.params u 2,
      resetMpr s.params u 3, resetMpr s.params u 4, resetMpr s.params u 5, resetMpr s.params u 6,
      s.params.bootBank]
    irq := { mask := (u 34).extractLsb' 0 3, req := 0 }
    timer :=
      { reload := (u 35).extractLsb' 0 7, counter := (u 36).extractLsb' 0 7, prescale := 0
        enabled := false }
    pad := { sel := (u 37).getLsbD 0, clr := (u 38).getLsbD 0 }
    vdc := s.vdc.resetFrom u
    vce := { s.vce with cr := loByte (u 39), cta := (u 40).extractLsb' 0 9 }
    cycles := 0
    psgWrites := [] }

theorem resetSequence_eq_read16 (u : Nat → Word) (s : State) :
    let v := read16 0xFFFE (bootPrime (resetRegisters u s))
    resetSequence u s = v.2.setPc v.1 := rfl

/-- The bytes of memory do not depend on the CPU's registers. -/
theorem State.byteAt_withCpu (s : State) (c : Cpu) (pl : Place) :
    State.byteAt { s with cpu := c } pl = s.byteAt pl := by
  cases pl <;> rfl

theorem resetRegisters_memoryKept (u : Nat → Word) (s : State) :
    MemoryKept s (resetRegisters u s) := by
  intro pl
  cases pl <;> rfl

theorem memOk_resetRegisters (h : s.memOk = true) (u : Nat → Word) :
    (resetRegisters u s).memOk = true := by
  rw [State.memOk_iff] at h ⊢
  obtain ⟨hrom, hwram, hcart, hstore, hwramSize, hstoreSize, hcartSize, hvdc, hvce⟩ := h
  exact ⟨hrom, hwram, hcart, hstore, hwramSize, hstoreSize, hcartSize,
    Vdc.memOk_congr hvdc rfl rfl rfl rfl rfl, hvce⟩

/-- BOOT_MAP's page in a slot it lists (70_reset_and_hazards.md R605). -/
theorem resetMpr_of_bootMap {m : List Byte} {i : Nat} {page : Byte} (hmap : p.bootMap = some m)
    (hi : m[i]? = some page) : resetMpr p u i = page := by
  simp only [resetMpr, hmap, List.getD_eq_getElem?_getD, hi, Option.getD_some]

theorem resetRegisters_mpr (u : Nat → Word) (s : State) (i : Fin 7) :
    (resetRegisters u s).mpr[i.val] = resetMpr s.params u i := by
  fin_cases i <;> rfl

/-! ### The vector -/

/-- An address in a slot that holds a ROM page leads to the page's bank (20_memory.md R81). -/
theorem State.place_of_romPage {a : Word} (h : (s.translate a).page.toNat < 128) :
    s.place a =
      .rom (romBank s.params (s.translate a).page.toNat * 8192 + (s.translate a).offset.toNat) :=
  if_pos h

theorem memRead_of_place_rom {a : Word} {k : Nat} (h : s.place a = .rom k) :
    memRead a s = (s.rom.get k, s) := by
  rw [memRead_storage s (.inl h), h]
  rfl

/-- With a ROM page in slot 7, the reset vector is the last word of its bank, and the read has no side
effect (70_reset_and_hazards.md R604). -/
theorem read16_resetVector (h : s.mpr[7].toNat < 128) :
    let k := romBank s.params s.mpr[7].toNat * 8192
    read16 0xFFFE s = (s.rom.get (k + 0x1FFF) ++ s.rom.get (k + 0x1FFE), s) := by
  intro k
  have hlow : s.place 0xFFFE = .rom (k + 0x1FFE) := State.place_of_romPage (a := 0xFFFE) h
  have hhigh : s.place 0xFFFF = .rom (k + 0x1FFF) := State.place_of_romPage (a := 0xFFFF) h
  have hreadLow : memRead 0xFFFE s = (s.rom.get (k + 0x1FFE), s) := memRead_of_place_rom hlow
  have hreadHigh : memRead 0xFFFF s = (s.rom.get (k + 0x1FFF), s) := memRead_of_place_rom hhigh
  rw [read16_of_next (b := 0xFFFF) rfl, hreadLow, hreadHigh]

/-! ### The whole sequence -/

/-- A stack to be primed lies in RAM: BOOT_MAP gives slot 1 such a page (70_reset_and_hazards.md R607;
log 29). -/
def PrimesRam (p : Params) : Prop :=
  p.bootStackPrime = none ∨ ∃ m page, p.bootMap = some m ∧ m[1]? = some page ∧ RamPage p page

theorem resetRegisters_ramPage {prime : Byte × List Byte} (h : PrimesRam s.params)
    (hprime : s.params.bootStackPrime = some prime) (u : Nat → Word) :
    RamPage s.params (resetRegisters u s).mpr[1] := by
  obtain hnone | ⟨m, page, hmap, hpage, hram⟩ := h
  · rw [hnone] at hprime
    cases hprime
  · have hslot : (resetRegisters u s).mpr[1] = page := resetMpr_of_bootMap hmap hpage
    exact hslot.symm ▸ hram

/-- Priming a stack in RAM changes S and the two RAMs alone. -/
theorem bootPrime_resetRegisters_only (h : PrimesRam s.params) (u : Nat → Word) :
    ∃ sp w c, bootPrime (resetRegisters u s) =
      { resetRegisters u s with cpu := { resetCpu u with sp := sp }, wram := w, cartRam := c } := by
  unfold bootPrime
  split
  · next s0 bytes hprime =>
    obtain ⟨w, c, hprimed⟩ := primeStack_only (s := (resetRegisters u s).setSp s0)
      (resetRegisters_ramPage h hprime u) bytes (s0 + 1)
    exact ⟨s0, w, c, hprimed⟩
  · exact ⟨_, _, _, rfl⟩

/-- The word at $FFFE through BOOT_BANK (70_reset_and_hazards.md R600, R604). -/
def State.bootVector (s : State) : Word :=
  let k := romBank s.params s.params.bootBank.toNat * 8192
  s.rom.get (k + 0x1FFF) ++ s.rom.get (k + 0x1FFE)

/-- The read of the vector from ROM changes nothing: the sequence is the registers, the priming and PC. -/
theorem resetSequence_eq (hbank : s.params.bootBank.toNat < 128) (h : PrimesRam s.params)
    (u : Nat → Word) :
    resetSequence u s = (bootPrime (resetRegisters u s)).setPc s.bootVector := by
  have hread : read16 0xFFFE (bootPrime (resetRegisters u s)) =
      (s.bootVector, bootPrime (resetRegisters u s)) := by
    obtain ⟨sp, w, c, hprimed⟩ := bootPrime_resetRegisters_only h u
    rw [hprimed]
    exact read16_resetVector hbank
  rw [resetSequence_eq_read16, hread]

/-- All that the sequence changes beyond its registers: S, PC and the two RAMs. -/
theorem resetSequence_only (hbank : s.params.bootBank.toNat < 128) (h : PrimesRam s.params)
    (u : Nat → Word) :
    ∃ sp w c, resetSequence u s =
      { resetRegisters u s with
        cpu := { resetCpu u with sp := sp, pc := s.bootVector }, wram := w, cartRam := c } := by
  obtain ⟨sp, w, c, hprimed⟩ := bootPrime_resetRegisters_only h u
  exact ⟨sp, w, c, by rw [resetSequence_eq hbank h, hprimed]; rfl⟩

theorem resetSequence_memoryKept (hbank : s.params.bootBank.toNat < 128)
    (hnone : s.params.bootStackPrime = none) (u : Nat → Word) :
    MemoryKept s (resetSequence u s) := by
  have hprimed : bootPrime (resetRegisters u s) = resetRegisters u s := by
    have hnone' : (resetRegisters u s).params.bootStackPrime = none := hnone
    rw [bootPrime, hnone']
  rw [resetSequence_eq hbank (.inl hnone), hprimed]
  exact fun pl => (State.byteAt_withCpu _ _ pl).trans (resetRegisters_memoryKept u s pl)

/-- What the sequence leaves of a machine whose stack it primes in RAM (70_reset_and_hazards.md R607). -/
theorem resetSequence_primed {s0 : Byte} {bytes : List Byte}
    (hbank : s.params.bootBank.toNat < 128) (h : PrimesRam s.params)
    (hprime : s.params.bootStackPrime = some (s0, bytes)) (u : Nat → Word) :
    let t := resetSequence u s
    let at' (j : Nat) : Place := t.place (stackAddr (s0 + 1 + BitVec.ofNat 8 j))
    t.cpu.sp = s0 ∧
    MemoryKeptBut ((List.range bytes.length).map at') s t ∧
    (s.memOk = true → ∀ j (h : j < bytes.length),
      (∀ j', j < j' → j' < bytes.length → at' j' ≠ at' j) → t.byteAt (at' j) = bytes[j]) := by
  intro t at'
  let base := (resetRegisters u s).setSp s0
  have hram : RamPage base.params base.mpr[1] := resetRegisters_ramPage h hprime u
  have hprimed : bootPrime (resetRegisters u s) = primeStack bytes (s0 + 1) base := by
    have hprime' : (resetRegisters u s).params.bootStackPrime = some (s0, bytes) := hprime
    rw [bootPrime, hprime']
  have ht : t = (primeStack bytes (s0 + 1) base).setPc s.bootVector :=
    (resetSequence_eq hbank h u).trans (by rw [hprimed])
  have hbyte (pl : Place) : t.byteAt pl = (primeStack bytes (s0 + 1) base).byteAt pl := by
    rw [ht]
    exact State.byteAt_withCpu _ _ pl
  have hbase (pl : Place) : base.byteAt pl = s.byteAt pl :=
    (State.byteAt_withCpu _ _ pl).trans (resetRegisters_memoryKept u s pl)
  obtain ⟨w, c, honly⟩ := primeStack_only hram bytes (s0 + 1)
  have hplace (a : Word) : t.place a = base.place a := by
    rw [ht, honly]
    rfl
  refine ⟨?_, fun pl hpl => ?_, fun hm j hj hlast => ?_⟩
  · rw [ht, honly]
    rfl
  · simp only [at', hplace] at hpl
    rw [hbyte, primeStack_memoryKeptBut hram bytes (s0 + 1) pl hpl, hbase]
  · simp only [at', hplace] at hlast ⊢
    rw [hbyte]
    exact primeStack_byteAt hram (memOk_resetRegisters hm u) bytes (s0 + 1) j hj hlast

/-- Settles O59: the host's reset is the sequence on the state with its draws taken, which holds the same
bytes; the registers are those the sequence writes, and the memory clauses are those of its priming. -/
theorem hostResetSequence : Obligations.HostResetSequence := by
  intro s hbank hprimes t boot k
  let drawn : State := { s with draws := s.draws + 41 }
  let u : Nat → Word := fun j => Config.resetValue (s.draws + j)
  have hdrawn (pl : Place) : drawn.byteAt pl = s.byteAt pl := by
    cases pl <;> rfl
  obtain ⟨sp, w, c, (ht : t = _)⟩ := resetSequence_only (s := drawn) hbank hprimes u
  have hvector : s.bootVector = s.rom.get (k + 0x1FFF) ++ s.rom.get (k + 0x1FFE) := by
    rw [State.bootVector, romBank_eq]
  refine ⟨?cpu, ?bank, ?map, ?pc, ?vdc, ?kept, ?memory, ?primed⟩
  case cpu =>
    rw [ht]
    exact ⟨rfl, rfl, rfl, rfl, rfl, rfl, rfl, rfl, rfl, rfl⟩
  case bank =>
    rw [ht]
    rfl
  case map =>
    intro m i page hmap hpage
    have hslots : t.mpr = (resetRegisters u drawn).mpr := by rw [ht]
    simp only [hslots, resetRegisters_mpr]
    exact resetMpr_of_bootMap hmap hpage
  case pc =>
    rw [ht]
    exact hvector
  case vdc =>
    rw [ht]
    exact ⟨rfl, rfl, rfl, rfl, rfl, rfl⟩
  case kept =>
    rw [ht]
    exact ⟨rfl, rfl, rfl, rfl, rfl, rfl, rfl, rfl, rfl⟩
  case memory =>
    exact fun hnone pl =>
      (resetSequence_memoryKept (s := drawn) hbank hnone u pl).trans (hdrawn pl)
  case primed =>
    intro s0 bytes hprime
    obtain ⟨hsp, hkept, hbytes⟩ :=
      resetSequence_primed (s := drawn) hbank hprimes hprime u
    exact ⟨hsp, fun pl hpl => (hkept pl hpl).trans (hdrawn pl), hbytes⟩

end Sys2Proof.Machine
end
